-- ==== Sys2Proof/Word.lean ====
section
/-! DEFINITION. The word types of TLMUX (spec/00_scope.md R8, R9; spec/30_encoding.md R80). -/

namespace Sys2Proof

/-- A 6-bit operation code (spec/30_encoding.md R80). -/
abbrev Code := BitVec 6

/-- One element of a trace as the host stores it: the 6-bit code in bits 5:0, bits 7:6 zero.
DESIGN CHOICE, safe: the spec gives the codes no container (notes/assumptions/3.md). -/
abbrev Byte := BitVec 8

/-- The 16-bit data registers LEDBM, ATIMER, PCOUNT, N, FDIV (R8). -/
abbrev Word16 := BitVec 16

end Sys2Proof
end

