-- ==== Sys2Proof/Config.lean ====
section
/-! DEFINITION. The parameters the spec leaves OPEN (spec/00_scope.md R8, spec/93_implementation_defined.md I1 to I3).
The parameters to which the spec gives a value are in Sys2Proof/Machine/Params.lean. -/

namespace Sys2Proof.Config

/-- The two OPEN reset values, each "an argument of the model" (R8, D21, D23). A machine holds its own in
`State.resetParams`, and every EV_RESET of its run takes them from there (notes/assumptions/21.md). -/
structure ResetParams where
  /-- `WAKE_IE_RESET`: the wake enable after reset -/
  wakeIe : Bool
  /-- `BTN_RESET`: the level of the button line at reset -/
  btn : Bool
deriving DecidableEq, Repr

/-- The `WAKE_IE_RESET` of `State.reset`. DESIGN CHOICE, unsafe: 0, the value of the spec's test vectors
(notes/assumptions/4.md). -/
def wakeIeReset : Bool := false

/-- The `BTN_RESET` of `State.reset`. DESIGN CHOICE, unsafe: 1 (released), the value of the spec's test vectors
(notes/assumptions/5.md). -/
def btnReset : Bool := true

/-- `TICK_PERIOD`, the real-time period of the tick: OPEN in the spec (R8, D22), and no rule depends on it, so
nothing here reads it (notes/assumptions/12.md). -/
opaque tickPeriod : Nat

end Sys2Proof.Config
end

