-- ==== Sys2Proof/Syntax.lean ====
section
/-! DEFINITION. The operations and events of TLMUX: one constructor per row of spec/opcode_table.json
(spec/30_encoding.md R81), and a line of a written trace (R95). -/

namespace Sys2Proof

/-- The 29 mnemonics of R81. The only operand in the table is EV_BTN's level (R94). -/
inductive Instr where
  /-- EV_RESET (R201) -/
  | evReset
  /-- EV_TICK (R202) -/
  | evTick
  /-- EV_BTN L (R203): `true` is L = 1, line high, released -/
  | evBtn (level : Bool)
  /-- IRQ_TICK (R226) -/
  | irqTick
  /-- IRQ_WAKE (R227) -/
  | irqWake
  /-- M_CHK (R171) -/
  | mChk
  /-- M_BLANK (R172) -/
  | mBlank
  /-- M_WIE_ON (R173) -/
  | mWieOn
  /-- M_MODE_DEEP (R174) -/
  | mModeDeep
  /-- M_ARM (R175) -/
  | mArm
  /-- M_REQ_NONE (R176) -/
  | mReqNone
  /-- M_SLEEP (R177) -/
  | mSleep
  /-- M_LED_ON (R178) -/
  | mLedOn
  /-- T_GATE (R111) -/
  | tGate
  /-- T_ANIM (R130) -/
  | tAnim
  /-- T_PWR (R150) -/
  | tPwr
  /-- T_LATCH (R112) -/
  | tLatch
  /-- T_SELCLR (R113) -/
  | tSelclr
  /-- T_SELSET (R114) -/
  | tSelset
  /-- T_DATA (R115) -/
  | tData
  /-- T_INC (R116) -/
  | tInc
  /-- T_RET (R117) -/
  | tRet
  /-- W_WIE_OFF (R186) -/
  | wWieOff
  /-- W_MODE_IDLE (R187) -/
  | wModeIdle
  /-- W_SE_OFF (R188) -/
  | wSeOff
  /-- W_LED_ON (R189) -/
  | wLedOn
  /-- W_REQ_UP (R190) -/
  | wReqUp
  /-- W_ANIM_OFF (R191) -/
  | wAnimOff
  /-- W_RET (R192) -/
  | wRet
deriving DecidableEq, Repr

/-- Who executes an operation: the "agent" column of R81. -/
inductive Agent where
  | environment
  | arbiter
  | main
  | tick
  | wake
deriving DecidableEq, Repr

/-- One line of a written trace (R95): an operation, and for the reader's sake the MAIN position it stands at. -/
structure TraceLine where
  instr : Instr
  position : Option Nat
deriving DecidableEq, Repr

end Sys2Proof
end

