-- ==== Sys2Proof/WellFormed.lean ====
section
/-! DEFINITION. What makes a term of the model's syntax well formed. -/

namespace Sys2Proof

/-- Every operation is well formed: the one operand of the table, EV_BTN's L, is one bit and is held as one
(spec/30_encoding.md R94), so no ill-formed operation can be built. -/
def Instr.wellFormed : Instr → Bool
  | .evReset => true
  | .evTick => true
  | .evBtn _ => true
  | .irqTick => true
  | .irqWake => true
  | .mChk => true
  | .mBlank => true
  | .mWieOn => true
  | .mModeDeep => true
  | .mArm => true
  | .mReqNone => true
  | .mSleep => true
  | .mLedOn => true
  | .tGate => true
  | .tAnim => true
  | .tPwr => true
  | .tLatch => true
  | .tSelclr => true
  | .tSelset => true
  | .tData => true
  | .tInc => true
  | .tRet => true
  | .wWieOff => true
  | .wModeIdle => true
  | .wSeOff => true
  | .wLedOn => true
  | .wReqUp => true
  | .wAnimOff => true
  | .wRet => true

/-- The MAIN positions a written line may name (R95): only an operation that stands at two positions takes one,
which is M_ARM (4 or 8) and M_SLEEP (6 or 9) by R82. -/
def Instr.writtenPositions : Instr → List Nat
  | .mArm => [4, 8]
  | .mSleep => [6, 9]
  | _ => []

/-- A written line names a position only where R95 allows one. -/
def TraceLine.wellFormed (l : TraceLine) : Bool :=
  l.instr.wellFormed &&
    match l.position with
    | none => true
    | some p => l.instr.writtenPositions.contains p

/-- A value `FACTOR` may take: an integer of at least 1 (spec/00_scope.md R8) whose divider counter, 0 to
FACTOR - 1, fits the 16 bits of FDIV (spec/10_state.md R28). -/
def factorWellFormed (factor : Nat) : Bool :=
  decide (1 ≤ factor) && decide (factor ≤ 65536)

end Sys2Proof
end

