-- ==== Sys2Proof/Decode.lean ====
section
/-! DEFINITION. The decoder and the encoder of the 6-bit operation codes (spec/30_encoding.md R80, R81, R93, R94). -/

namespace Sys2Proof

/-- Why a byte is no operation. -/
inductive DecodeError where
  /-- Bits 7:6 are not zero: the byte holds no 6-bit code (notes/assumptions/3.md). -/
  | notACode (b : Byte)
  /-- The code is one of the 34 reserved codes of R93. -/
  | reservedCode (c : Code)
deriving DecidableEq, Repr

/-- Class 00 of R80: environment events and arbiter operations. EV_BTN is format F1, its level is `code[0]`. -/
def decodeClass0 : Nat → Option Instr
  | 0x0 => some .evReset
  | 0x1 => some .evTick
  | 0x2 => some (.evBtn false)
  | 0x3 => some (.evBtn true)
  | 0x4 => some .irqTick
  | 0x5 => some .irqWake
  | _ => none

/-- Class 01 of R80: MAIN. -/
def decodeMain : Nat → Option Instr
  | 0x0 => some .mChk
  | 0x1 => some .mBlank
  | 0x2 => some .mWieOn
  | 0x3 => some .mModeDeep
  | 0x4 => some .mArm
  | 0x5 => some .mReqNone
  | 0x6 => some .mSleep
  | 0x7 => some .mLedOn
  | _ => none

/-- Class 10 of R80: TICK. -/
def decodeTick : Nat → Option Instr
  | 0x0 => some .tGate
  | 0x1 => some .tAnim
  | 0x2 => some .tPwr
  | 0x3 => some .tLatch
  | 0x4 => some .tSelclr
  | 0x5 => some .tSelset
  | 0x6 => some .tData
  | 0x7 => some .tInc
  | 0x8 => some .tRet
  | _ => none

/-- Class 11 of R80: WAKE. -/
def decodeWake : Nat → Option Instr
  | 0x0 => some .wWieOff
  | 0x1 => some .wModeIdle
  | 0x2 => some .wSeOff
  | 0x3 => some .wLedOn
  | 0x4 => some .wReqUp
  | 0x5 => some .wAnimOff
  | 0x6 => some .wRet
  | _ => none

/-- The operation of a 6-bit code, by its class `code[5:4]` and its index `code[3:0]` (R80). -/
def decodeCode (c : Code) : Option Instr :=
  let index := (c.extractLsb' 0 4).toNat
  match (c.extractLsb' 4 2).toNat with
  | 0 => decodeClass0 index
  | 1 => decodeMain index
  | 2 => decodeTick index
  | _ => decodeWake index

/-- The decoder: total on any byte, a reserved code refused by name (R93). -/
def decode (b : Byte) : Except DecodeError Instr :=
  if b.extractLsb' 6 2 = 0#2 then
    let c : Code := b.extractLsb' 0 6
    match decodeCode c with
    | some i => .ok i
    | none => .error (.reservedCode c)
  else .error (.notACode b)

/-- The code of an operation (R81). -/
def encodeCode : Instr → Code
  | .evReset => 0b000000#6
  | .evTick => 0b000001#6
  | .evBtn level => 0b00001#5 ++ BitVec.ofBool level
  | .irqTick => 0b000100#6
  | .irqWake => 0b000101#6
  | .mChk => 0b010000#6
  | .mBlank => 0b010001#6
  | .mWieOn => 0b010010#6
  | .mModeDeep => 0b010011#6
  | .mArm => 0b010100#6
  | .mReqNone => 0b010101#6
  | .mSleep => 0b010110#6
  | .mLedOn => 0b010111#6
  | .tGate => 0b100000#6
  | .tAnim => 0b100001#6
  | .tPwr => 0b100010#6
  | .tLatch => 0b100011#6
  | .tSelclr => 0b100100#6
  | .tSelset => 0b100101#6
  | .tData => 0b100110#6
  | .tInc => 0b100111#6
  | .tRet => 0b101000#6
  | .wWieOff => 0b110000#6
  | .wModeIdle => 0b110001#6
  | .wSeOff => 0b110010#6
  | .wLedOn => 0b110011#6
  | .wReqUp => 0b110100#6
  | .wAnimOff => 0b110101#6
  | .wRet => 0b110110#6

/-- The byte that stands for an operation in a trace: its code in bits 5:0. -/
def encode (i : Instr) : Byte := 0#2 ++ encodeCode i

/-- Who executes an operation (the "agent" column of R81). -/
def agentOf : Instr → Agent
  | .evReset => .environment
  | .evTick => .environment
  | .evBtn _ => .environment
  | .irqTick => .arbiter
  | .irqWake => .arbiter
  | .mChk => .main
  | .mBlank => .main
  | .mWieOn => .main
  | .mModeDeep => .main
  | .mArm => .main
  | .mReqNone => .main
  | .mSleep => .main
  | .mLedOn => .main
  | .tGate => .tick
  | .tAnim => .tick
  | .tPwr => .tick
  | .tLatch => .tick
  | .tSelclr => .tick
  | .tSelset => .tick
  | .tData => .tick
  | .tInc => .tick
  | .tRet => .tick
  | .wWieOff => .wake
  | .wModeIdle => .wake
  | .wSeOff => .wake
  | .wLedOn => .wake
  | .wReqUp => .wake
  | .wAnimOff => .wake
  | .wRet => .wake

/-- The class `code[5:4]` of an agent (R80). -/
def agentClass : Agent → BitVec 2
  | .environment => 0b00#2
  | .arbiter => 0b00#2
  | .main => 0b01#2
  | .tick => 0b10#2
  | .wake => 0b11#2

/-- The host's question: the operation the decoder reads from a row's bits `w`. A code is one byte, so a number
above 255 holds none. -/
def decodeTableWord (_nbits w : Nat) : Option Instr :=
  if w < 256 then (decode (BitVec.ofNat 8 w)).toOption else none

end Sys2Proof
end

