-- ==== Sys2Proof/Machine/State.lean ====
section
/-! DEFINITION. The state of TLMUX (spec/10_state.md R20 to R45), its reset, and why a step may stop. -/

namespace Sys2Proof.Machine

/-- ASTATE's seven values (R22, spec/30_encoding.md R90). The code 7 "is not a state and never occurs"; it is
unrepresentable here (notes/assumptions/8.md). -/
inductive AnimationState where
  | off
  | state1
  | state2
  | state3
  | state4
  | state5
  | state6
deriving DecidableEq, Repr

/-- The seven values of PREQ and MREQ (R24, R30, spec/30_encoding.md R91). -/
inductive PowerRequest where
  | none
  | buttonPressed
  | buttonPressedLong
  | buttonConfirmed
  | buttonReleased
  | powerDown
  | powerUp
deriving DecidableEq, Repr

/-- SMODE's two values (R38): 0 is idle, 1 is deep. -/
inductive SleepMode where
  | idle
  | deep
deriving DecidableEq, Repr

/-- No operation of TLMUX can fault (spec/60_exceptions.md R220), so there is no fault
(notes/assumptions/13.md). -/
inductive Fault
deriving DecidableEq, Repr

/-- Why an input is not an execution of TLMUX. Every refusal is safe: the model stops, and it allows nothing that
the step relation of spec/60_exceptions.md R233 does not have. -/
inductive Refusal where
  /-- An instruction without a meaning yet: raised by `exec`'s arm of it and by nothing else. Safe. No arm has it. -/
  | notModelled (mnemonic : String)
  /-- A defined code where its "enabled when" fails (spec/30_encoding.md R93, D26): raised by every meaning but the
  events'. Safe. -/
  | notEnabled
  /-- A reserved code in the trace (R93): raised by `step`. Safe. -/
  | reservedCode (c : Code)
  /-- A byte of the trace that holds no 6-bit code (notes/assumptions/3.md): raised by `step`. Safe. -/
  | notACode (b : Byte)
  /-- The running context's sequence counter is outside its table, which R42 to R44 say never occurs: raised by
  `step`. Safe (notes/assumptions/7.md). -/
  | emptyPosition
deriving DecidableEq, Repr

/-- Every register of R20 but the hardwired TICK_IE, which is `State.tickIe` of Machine/Flags.lean, and the model's
own fields `resetParams` and `trace`. A 1-bit register is a `Bool`, true for 1 (R92; notes/assumptions/15.md). -/
structure State where
  /-- LEDBM, the LED bitmap (R21) -/
  ledbm : Word16
  /-- ASTATE (R22) -/
  astate : AnimationState
  /-- ATIMER (R23) -/
  atimer : Word16
  /-- PREQ (R24) -/
  preq : PowerRequest
  /-- PCOUNT (R25) -/
  pcount : Word16
  /-- PLED (R26) -/
  pled : Bool
  /-- N (R27) -/
  n : Word16
  /-- FDIV (R28) -/
  fdiv : Word16
  /-- LIDX (R29) -/
  lidx : BitVec 2
  /-- LVAL (R29) -/
  lval : BitVec 5
  /-- MREQ (R30) -/
  mreq : PowerRequest
  /-- SEL (R31) -/
  sel : BitVec 4
  /-- DATA (R32) -/
  data : BitVec 5
  /-- BTN (R33): true is 1, line high, released -/
  btn : Bool
  /-- WAKE_IE (R34) -/
  wakeIe : Bool
  /-- WAKE_IF (R35) -/
  wakeIf : Bool
  /-- TICK_IF (R36) -/
  tickIf : Bool
  /-- SMODE (R38) -/
  smode : SleepMode
  /-- SE (R39) -/
  se : Bool
  /-- SLEEPING (R40) -/
  sleeping : Bool
  /-- INTICK (R41) -/
  intick : Bool
  /-- INWAKE (R41) -/
  inwake : Bool
  /-- MPC (R42) -/
  mpc : BitVec 4
  /-- TPC (R43) -/
  tpc : BitVec 4
  /-- WPC (R44) -/
  wpc : BitVec 3
  /-- The MODEL's own field: the two OPEN parameters `WAKE_IE_RESET` and `BTN_RESET` of this machine (R8). EV_RESET
  reads them and nothing writes them (notes/assumptions/21.md). -/
  resetParams : Config.ResetParams
  /-- The MODEL's own field: the trace (R80, R95) still to be run, one code a byte, by which the environment injects
  its events; while it is empty no event arrives and the block runs by itself (notes/assumptions/1.md). -/
  trace : List Byte
deriving DecidableEq, Repr

/-- The reset values of R45, of the machine whose OPEN parameters `WAKE_IE_RESET` and `BTN_RESET` are the arguments. -/
def State.resetWith (wakeIeReset btnReset : Bool) : State where
  ledbm := 0x0000#16
  astate := .off
  atimer := 0#16
  preq := .none
  pcount := 0#16
  pled := false
  n := 0#16
  fdiv := 0#16
  lidx := 0#2
  lval := 0#5
  mreq := .none
  sel := 0b0000#4
  data := 0b00000#5
  btn := btnReset
  wakeIe := wakeIeReset
  wakeIf := false
  tickIf := false
  smode := .idle
  se := false
  sleeping := false
  intick := false
  inwake := false
  mpc := 0#4
  tpc := 0#4
  wpc := 0#3
  resetParams := { wakeIe := wakeIeReset, btn := btnReset }
  trace := []

/-- The machine right after reset (R45), with the parameter values of Config. -/
def State.reset : State := State.resetWith Config.wakeIeReset Config.btnReset

end Sys2Proof.Machine
end

