-- ==== Sys2Proof/Machine/Flags.lean ====
section
/-! DEFINITION. What is computed from the 1-bit registers: the running level, what is dispatchable, which context
runs, the edge detector, the power state (spec/60_exceptions.md R224, R232, R237; spec/44_events_edge_detector.md
R202, R204). -/

namespace Sys2Proof.Machine

/-- TICK_IE: hardwired to 1 (spec/10_state.md R37; notes/assumptions/10.md). -/
def State.tickIe (_s : State) : Bool := true

/-- The level of the running context (R224): 2 in WAKE, 1 in TICK, 0 in MAIN. -/
def level (s : State) : Nat :=
  if s.inwake then 2 else if s.intick then 1 else 0

/-- The wake interrupt is dispatchable (R224). -/
def wakeDispatchable (s : State) : Bool :=
  s.wakeIf && s.wakeIe && decide (level s < 2)

/-- The tick interrupt is dispatchable (R224). -/
def tickDispatchable (s : State) : Bool :=
  s.tickIf && s.tickIe && decide (level s < 1)

/-- "MAIN runs" (spec/30_encoding.md R81, R232). -/
def mainRuns (s : State) : Bool :=
  !s.inwake && !s.intick && !s.sleeping && !wakeDispatchable s && !tickDispatchable s

/-- "TICK runs" (R81). -/
def tickRuns (s : State) : Bool :=
  !s.inwake && s.intick && !wakeDispatchable s

/-- "WAKE runs" (R81). -/
def wakeRuns (s : State) : Bool := s.inwake

/-- The edge detector (R203, R204): the line falls from 1 to 0 while WAKE_IE is 1. -/
def wakeEdge (old new wakeIe : Bool) : Bool := old && !new && wakeIe

/-- The button is pressed: the line is active-low (spec/42_power_sm.md R150, D24). -/
def pressed (s : State) : Bool := !s.btn

/-- The three power states (R237). -/
inductive PowerState where
  | run
  | idle
  | deep
deriving DecidableEq, Repr

/-- The power state is a function of SLEEPING and SMODE (R237). -/
def powerState (s : State) : PowerState :=
  match s.sleeping, s.smode with
  | false, _ => .run
  | true, .idle => .idle
  | true, .deep => .deep

end Sys2Proof.Machine
end

