-- ==== Sys2Proof/Machine/Params.lean ====
section
/-! DEFINITION. The parameters to which the spec gives a value (spec/00_scope.md R8). The numbers are unaudited
literals of the source (spec/93_implementation_defined.md I6; notes/assumptions/18.md), so each stands in one place. -/

namespace Sys2Proof.Machine.Params

/-- `FACTOR`, the multiplex divisor: 1 in this hardware (R8, R119). -/
def factor : Nat := 1

/-- `N_MOD`, the modulus of N (R8, R116). -/
def nMod : Nat := 1000

/-- `N_CH`, the number of output channels (R8, R112). -/
def nCh : Nat := 4

/-- `HOLD_TICKS`, the length of State1 and State4 (R8). -/
def holdTicks : Word16 := 15000#16

/-- `BLINK_TICKS`, the length of State2 and State5 (R8). -/
def blinkTicks : Word16 := 4000#16

/-- `AMBER_TICKS`, the length of State3 and State6 (R8). -/
def amberTicks : Word16 := 3000#16

/-- `BLINK_PERIOD` (R8, R133). -/
def blinkPeriod : Nat := 800

/-- `BLINK_THRESH` (R8, R133). -/
def blinkThresh : Nat := 400

/-- `PRESS_TICKS` (R8, R151). -/
def pressTicks : Word16 := 4000#16

/-- `RELEASE_TICKS` (R8, R153). -/
def releaseTicks : Word16 := 4000#16

/-- `PWR_LED_BIT`, the power-LED bit in the data value (R8, R88). -/
def pwrLedBit : BitVec 5 := 0x10#5

/-- Red South/North, green East/West: written by Off and by State2's lit phase (R87). -/
def bmpRedSNGreenEW : Word16 := 0x050A#16

/-- Red South/North, East/West dark: State2's dark phase (R87). -/
def bmpRedSN : Word16 := 0x0500#16

/-- Red South/North, yellow East/West: State2 to State3 (R87). -/
def bmpRedSNYellowEW : Word16 := 0x05A0#16

/-- Red East/West, green South/North: State3 to State4 and State5's lit phase (R87). -/
def bmpRedEWGreenSN : Word16 := 0x0A05#16

/-- Red East/West, South/North dark: State5's dark phase (R87). -/
def bmpRedEW : Word16 := 0x0A00#16

/-- Red East/West, yellow South/North: State5 to State6 (R87). -/
def bmpRedEWYellowSN : Word16 := 0x0A50#16

/-- All dark: T_PWR on entering PowerDown, and reset (R87). -/
def bmpDark : Word16 := 0x0000#16

end Sys2Proof.Machine.Params
end

