-- ==== Sys2Proof/Machine/Operands.lean ====
section
/-! DEFINITION. The values the operations compute, and the layouts of the registers (spec/30_encoding.md R85 to R92;
spec/00_scope.md R9). -/

namespace Sys2Proof.Machine

/-- `dec_sat` (R9): minus one above 0, else 0. -/
def decSat (v : Word16) : Word16 := if v = 0#16 then 0#16 else v - 1#16

/-- Nibble `k` of the bitmap: `(LEDBM >> (4 * k)) & 0xF` (R9, R88). -/
def nibble (bitmap : Word16) (k : BitVec 2) : BitVec 4 :=
  ((bitmap >>> (4 * k.toNat)) &&& 0xF#16).setWidth 4

/-- The data value (R88, R112): the nibble extended by zero, with the power-LED bit ORed in. -/
def dataValue (bitmap : Word16) (channel : BitVec 2) (pled : Bool) : BitVec 5 :=
  (nibble bitmap channel).setWidth 5 ||| (if pled then Params.pwrLedBit else 0#5)

/-- The channel index `N % 4` (R112). -/
def channelOf (n : Word16) : BitVec 2 := BitVec.ofNat 2 (n.toNat % Params.nCh)

/-- `(N + 1) % 1000` (R116), computed exactly and then narrowed (notes/assumptions/11.md). -/
def nextN (n : Word16) : Word16 := BitVec.ofNat 16 ((n.toNat + 1) % Params.nMod)

/-- `(FDIV + 1) % FACTOR` (R116), computed exactly and then narrowed (notes/assumptions/11.md). -/
def nextFdiv (factor : Nat) (fdiv : Word16) : Word16 := BitVec.ofNat 16 ((fdiv.toNat + 1) % factor)

/-- The blink rule (R133, R136): the lit value while `ATIMER % 800 > 400`, else the dark one. -/
def blink (timer lit dark : Word16) : Word16 :=
  if timer.toNat % Params.blinkPeriod > Params.blinkThresh then lit else dark

/-- `SEL[LIDX] <- 1`, the other lines kept (R114). -/
def assertSelect (sel : BitVec 4) (channel : BitVec 2) : BitVec 4 := sel ||| (1#4 <<< channel.toNat)

/-- ASTATE's 3-bit encoding (R90). -/
def animationCode : AnimationState → BitVec 3
  | .off => 0#3
  | .state1 => 1#3
  | .state2 => 2#3
  | .state3 => 3#3
  | .state4 => 4#3
  | .state5 => 5#3
  | .state6 => 6#3

/-- The value a 3-bit code of ASTATE names; 7 is none (R90, R93). -/
def animationOfCode (c : BitVec 3) : Option AnimationState :=
  match c.toNat with
  | 0 => some .off
  | 1 => some .state1
  | 2 => some .state2
  | 3 => some .state3
  | 4 => some .state4
  | 5 => some .state5
  | 6 => some .state6
  | _ => none

/-- The 3-bit encoding of PREQ and MREQ (R91). -/
def requestCode : PowerRequest → BitVec 3
  | .none => 0#3
  | .buttonPressed => 1#3
  | .buttonPressedLong => 2#3
  | .buttonConfirmed => 3#3
  | .buttonReleased => 4#3
  | .powerDown => 5#3
  | .powerUp => 6#3

/-- The value a 3-bit code of PREQ or MREQ names; 7 is none (R91, R93). -/
def requestOfCode (c : BitVec 3) : Option PowerRequest :=
  match c.toNat with
  | 0 => some .none
  | 1 => some .buttonPressed
  | 2 => some .buttonPressedLong
  | 3 => some .buttonConfirmed
  | 4 => some .buttonReleased
  | 5 => some .powerDown
  | 6 => some .powerUp
  | _ => none

/-- SMODE's bit (R92): 0 idle, 1 deep. -/
def smodeBit : SleepMode → Bool
  | .idle => false
  | .deep => true

/-- The three colours of the bitmap's nibbles (R85). -/
inductive Colour where
  | green
  | yellow
  | red
deriving DecidableEq, Repr

/-- The four directions of a nibble's bits (R86). -/
inductive Direction where
  | south
  | east
  | north
  | west
deriving DecidableEq, Repr

/-- The channel, and the nibble number, of a colour (R85, R89): green 0, yellow 1, red 2; channel 3 has none. -/
def channelOfColour : Colour → BitVec 2
  | .green => 0#2
  | .yellow => 1#2
  | .red => 2#2

/-- The bit of a direction inside a nibble, and its data line (R86, R88). -/
def directionBit : Direction → Nat
  | .south => 0
  | .east => 1
  | .north => 2
  | .west => 3

/-- The bitmap says that this direction's LED of this colour is on (R86). -/
def bitmapLit (bitmap : Word16) (c : Colour) (d : Direction) : Bool :=
  (nibble bitmap (channelOfColour c)).getLsbD (directionBit d)

/-- The outputs light this direction's LED of this colour: its channel's select line and its data line are both
active (R69, R88, R89; DEDUCED, notes/assumptions/20.md). -/
def outputLit (s : State) (c : Colour) (d : Direction) : Bool :=
  s.sel.getLsbD (channelOfColour c).toNat && s.data.getLsbD (directionBit d)

/-- The power-LED line, `DATA[4]` (R32, R88). -/
def powerLedLine (s : State) : Bool := s.data.getLsbD 4

end Sys2Proof.Machine
end

