-- ==== Sys2Proof/Machine/Ops.lean ====
section
/-! DEFINITION. The operations the meanings share: when an operation is enabled, moving a sequence counter, entering
and leaving a handler, blanking the port. TLMUX has no memory (spec/20_memory.md R60), so there is no operation
over one. -/

namespace Sys2Proof.Machine

open Host

/-- When an operation or event is enabled: the column of spec/30_encoding.md R81, with the exact conditions of
spec/60_exceptions.md R226, R227 and R233. An event is enabled always (R200). -/
def enabled : Instr → State → Bool
  | .evReset, _ => true
  | .evTick, _ => true
  | .evBtn _, _ => true
  | .irqTick, s => tickDispatchable s && !wakeDispatchable s
  | .irqWake, s => wakeDispatchable s
  | .mChk, s => mainRuns s && s.mpc == 0#4
  | .mBlank, s => mainRuns s && s.mpc == 1#4
  | .mWieOn, s => mainRuns s && s.mpc == 2#4
  | .mModeDeep, s => mainRuns s && s.mpc == 3#4
  | .mArm, s => mainRuns s && (s.mpc == 4#4 || s.mpc == 8#4)
  | .mReqNone, s => mainRuns s && s.mpc == 5#4
  | .mSleep, s => mainRuns s && (s.mpc == 6#4 || s.mpc == 9#4)
  | .mLedOn, s => mainRuns s && s.mpc == 7#4
  | .tGate, s => tickRuns s && s.tpc == 0#4
  | .tAnim, s => tickRuns s && s.tpc == 1#4
  | .tPwr, s => tickRuns s && s.tpc == 2#4
  | .tLatch, s => tickRuns s && s.tpc == 3#4
  | .tSelclr, s => tickRuns s && s.tpc == 4#4
  | .tSelset, s => tickRuns s && s.tpc == 5#4
  | .tData, s => tickRuns s && s.tpc == 6#4
  | .tInc, s => tickRuns s && s.tpc == 7#4
  | .tRet, s => tickRuns s && s.tpc == 8#4
  | .wWieOff, s => wakeRuns s && s.wpc == 0#3
  | .wModeIdle, s => wakeRuns s && s.wpc == 1#3
  | .wSeOff, s => wakeRuns s && s.wpc == 2#3
  | .wLedOn, s => wakeRuns s && s.wpc == 3#3
  | .wReqUp, s => wakeRuns s && s.wpc == 4#3
  | .wAnimOff, s => wakeRuns s && s.wpc == 5#3
  | .wRet, s => wakeRuns s && s.wpc == 6#3

/-- An operation has its effect where it is enabled; elsewhere the step relation has no such step and the input is
refused (spec/30_encoding.md R93, D26; notes/assumptions/9.md). -/
def whenEnabled (i : Instr) (effect : State → State) (s : State) : Outcome State Fault Refusal :=
  if enabled i s then .next (effect s) else .refused .notEnabled

/-- `MPC <- k` (spec/00_scope.md R10). -/
def State.mainTo (s : State) (k : BitVec 4) : State := { s with mpc := k }

/-- `TPC <- k` (R10). -/
def State.tickTo (s : State) (k : BitVec 4) : State := { s with tpc := k }

/-- `WPC <- k` (R10). -/
def State.wakeTo (s : State) (k : BitVec 3) : State := { s with wpc := k }

/-- The two interrupts (spec/60_exceptions.md R221). -/
inductive Handler where
  | tick
  | wake
deriving DecidableEq, Repr

/-- Taking an interrupt, the only trap there is (R220): its pending bit is cleared, its handler is active and starts
at position 0, and the core no longer sleeps (R226, R227). Nothing is saved: the preempted context's counter keeps
its value (R228). -/
def State.enter (s : State) : Handler → State
  | .tick => { s with tickIf := false, intick := true, tpc := 0#4, sleeping := false }
  | .wake => { s with wakeIf := false, inwake := true, wpc := 0#3, sleeping := false }

/-- Returning from a handler (R117, R192, R229): its context bit and its counter become 0, nothing is restored. -/
def State.leave (s : State) : Handler → State
  | .tick => { s with intick := false, tpc := 0#4 }
  | .wake => { s with inwake := false, wpc := 0#3 }

/-- Blanking the output port (spec/43_sleep_wake.md R172). -/
def State.blankPort (s : State) : State := { s with sel := 0b0000#4, data := 0b00000#5 }

end Sys2Proof.Machine
end

