-- ==== Sys2Proof/Machine/Animation.lean ====
section
/-! DEFINITION. T_ANIM, the Animation State Machine (spec/41_animation_sm.md R130 to R138). -/

namespace Sys2Proof.Machine

open Host

/-- The arm of the state ASTATE names at the start of the operation (R131 to R137). -/
def animArm (s : State) : State :=
  match s.astate with
  | .off => { s with atimer := Params.holdTicks, ledbm := Params.bmpRedSNGreenEW, astate := .state1 }
  | .state1 => if s.atimer = 0#16 then { s with astate := .state2, atimer := Params.blinkTicks } else s
  | .state2 =>
    if s.atimer = 0#16 then
      { s with astate := .state3, atimer := Params.amberTicks, ledbm := Params.bmpRedSNYellowEW }
    else { s with ledbm := blink s.atimer Params.bmpRedSNGreenEW Params.bmpRedSN }
  | .state3 =>
    if s.atimer = 0#16 then
      { s with astate := .state4, atimer := Params.holdTicks, ledbm := Params.bmpRedEWGreenSN }
    else s
  | .state4 => if s.atimer = 0#16 then { s with astate := .state5, atimer := Params.blinkTicks } else s
  | .state5 =>
    if s.atimer = 0#16 then
      { s with astate := .state6, atimer := Params.amberTicks, ledbm := Params.bmpRedEWYellowSN }
    else { s with ledbm := blink s.atimer Params.bmpRedEWGreenSN Params.bmpRedEW }
  | .state6 => if s.atimer = 0#16 then { s with astate := .off } else s

/-- AnimStep (R130): the arm, then the saturating decrement (R138). -/
def animStep (s : State) : State :=
  let a := animArm s
  { a with atimer := decSat a.atimer }

/-- T_ANIM (R130). -/
def execTAnim (s : State) : Outcome State Fault Refusal :=
  whenEnabled .tAnim (fun s => (animStep s).tickTo 2#4) s

end Sys2Proof.Machine
end

