-- ==== Sys2Proof/Machine/Arbiter.lean ====
section
/-! DEFINITION. The arbiter: its two operations (spec/60_exceptions.md R226, R227), the three sequence tables
(spec/30_encoding.md R82 to R84), the selection of the next operation (R233), and the fetch. -/

namespace Sys2Proof.Machine

open Host

/-- IRQ_TICK (R226). -/
def execIrqTick (s : State) : Outcome State Fault Refusal :=
  whenEnabled .irqTick (fun s => s.enter .tick) s

/-- IRQ_WAKE (R227). -/
def execIrqWake (s : State) : Outcome State Fault Refusal :=
  whenEnabled .irqWake (fun s => s.enter .wake) s

/-- The MAIN sequence table, positions 0 to 9 (R82). -/
def mainTable : List Byte :=
  [0x10#8, 0x11#8, 0x12#8, 0x13#8, 0x14#8, 0x15#8, 0x16#8, 0x17#8, 0x14#8, 0x16#8]

/-- The TICK sequence table, positions 0 to 8 (R83). -/
def tickTable : List Byte :=
  [0x20#8, 0x21#8, 0x22#8, 0x23#8, 0x24#8, 0x25#8, 0x26#8, 0x27#8, 0x28#8]

/-- The WAKE sequence table, positions 0 to 6 (R84). -/
def wakeTable : List Byte :=
  [0x30#8, 0x31#8, 0x32#8, 0x33#8, 0x34#8, 0x35#8, 0x36#8]

/-- What the block does next by itself. -/
inductive Selection where
  /-- It executes the operation of this code. -/
  | code (b : Byte)
  /-- Nothing: the state is quiescent. -/
  | quiescent
  /-- The running context's counter is outside its table, which never occurs (spec/10_state.md R42 to R44;
  notes/assumptions/7.md). -/
  | emptyPosition
deriving DecidableEq, Repr

/-- The combinational lookup of a sequence table (spec/20_memory.md R68). -/
def lookup (table : List Byte) (position : Nat) : Selection :=
  match table[position]? with
  | some b => .code b
  | none => .emptyPosition

/-- `Step(state)` of R233: the one operation the block executes next, or none. -/
def arbiter (s : State) : Selection :=
  if wakeDispatchable s then .code 0x05#8
  else if tickDispatchable s then .code 0x04#8
  else if s.inwake then lookup wakeTable s.wpc.toNat
  else if s.intick then lookup tickTable s.tpc.toNat
  else if !s.sleeping then lookup mainTable s.mpc.toNat
  else .quiescent

/-- What a step runs, and the state it runs in. -/
inductive Fetched where
  | word (b : Byte) (s : State)
  | quiescent
  | emptyPosition
deriving DecidableEq, Repr

/-- The fetch: the trace's next code while there is one, which leaves the trace; else the arbiter's choice
(R233; notes/assumptions/1.md). -/
def fetch (s : State) : Fetched :=
  match s.trace with
  | b :: rest => .word b { s with trace := rest }
  | [] =>
    match arbiter s with
    | .code b => .word b s
    | .quiescent => .quiescent
    | .emptyPosition => .emptyPosition

/-- A byte that is no operation makes the trace no execution (spec/30_encoding.md R93). -/
def refusalOf : DecodeError → Refusal
  | .notACode b => .notACode b
  | .reservedCode c => .reservedCode c

/-- What must hold for an operation to be the one that runs next: its pending bits, its context and its position.
Where it is enabled already, nothing changes. -/
def selectFor (i : Instr) (s : State) : State :=
  let main (k : BitVec 4) : State :=
    { s with inwake := false, intick := false, sleeping := false, wakeIf := false, tickIf := false, mpc := k }
  let tick (k : BitVec 4) : State := { s with inwake := false, intick := true, wakeIf := false, tpc := k }
  let wake (k : BitVec 3) : State := { s with inwake := true, wpc := k }
  if enabled i s then s
  else
    match i with
    | .evReset => s
    | .evTick => s
    | .evBtn _ => s
    | .irqTick => { s with tickIf := true, intick := false, inwake := false, wakeIf := false }
    | .irqWake => { s with wakeIf := true, wakeIe := true, inwake := false }
    | .mChk => main 0#4
    | .mBlank => main 1#4
    | .mWieOn => main 2#4
    | .mModeDeep => main 3#4
    | .mArm => main 8#4
    | .mReqNone => main 5#4
    | .mSleep => main 9#4
    | .mLedOn => main 7#4
    | .tGate => tick 0#4
    | .tAnim => tick 1#4
    | .tPwr => tick 2#4
    | .tLatch => tick 3#4
    | .tSelclr => tick 4#4
    | .tSelset => tick 5#4
    | .tData => tick 6#4
    | .tInc => tick 7#4
    | .tRet => tick 8#4
    | .wWieOff => wake 0#3
    | .wModeIdle => wake 1#3
    | .wSeOff => wake 2#3
    | .wLedOn => wake 3#3
    | .wReqUp => wake 4#3
    | .wAnimOff => wake 5#3
    | .wRet => wake 6#3

/-- The byte that holds the number `w`; a number above 255 is no code and becomes a byte the decoder refuses. -/
def traceByte (w : Nat) : Byte := if w < 256 then BitVec.ofNat 8 w else 0xFF#8

/-- The code `w` becomes the next of the trace, and where it is an operation of the block the state is one in which
that operation is enabled (notes/assumptions/2.md). -/
def placeNext (s : State) (w : Nat) : State :=
  let ready := match decode (traceByte w) with
    | .ok i => selectFor i s
    | .error _ => s
  { ready with trace := traceByte w :: s.trace }

end Sys2Proof.Machine
end

