-- ==== Sys2Proof/Machine/Events.lean ====
section
/-! DEFINITION. The environment's events (spec/44_events_edge_detector.md R200 to R203). An event is enabled in every
state and never fails. -/

namespace Sys2Proof.Machine

open Host

/-- EV_RESET (R201): every register takes its reset value, WAKE_IE and BTN the machine's own parameters (R8, R264;
notes/assumptions/21.md). The trace is no register; it holds what the environment does next, and stays
(notes/assumptions/14.md). -/
def execEvReset (s : State) : Outcome State Fault Refusal :=
  .next { State.resetWith s.resetParams.wakeIe s.resetParams.btn with trace := s.trace }

/-- The tick source (R202): stopped in deep sleep, it sets TICK_IF otherwise. -/
def tickPending (s : State) : Bool :=
  if s.sleeping && smodeBit s.smode then s.tickIf else true

/-- EV_TICK (R202). -/
def execEvTick (s : State) : Outcome State Fault Refusal :=
  .next { s with tickIf := tickPending s }

/-- EV_BTN L (R203): the line takes the level, and the edge detector may set WAKE_IF (R204). -/
def execEvBtn (newLevel : Bool) (s : State) : Outcome State Fault Refusal :=
  .next { s with
    btn := newLevel
    wakeIf := if wakeEdge s.btn newLevel s.wakeIe then true else s.wakeIf }

end Sys2Proof.Machine
end

