-- ==== Sys2Proof/Machine/Main.lean ====
section
/-! DEFINITION. The MAIN context, the Sleep/Wake Controller's loop (spec/43_sleep_wake.md R170 to R178). -/

namespace Sys2Proof.Machine

open Host

/-- The branch of M_CHK on the sampled request (R171). -/
def mainBranch : PowerRequest → BitVec 4
  | .powerDown => 1#4
  | .powerUp => 7#4
  | .none => 8#4
  | .buttonPressed => 8#4
  | .buttonPressedLong => 8#4
  | .buttonConfirmed => 8#4
  | .buttonReleased => 8#4

/-- M_CHK (R171): PREQ is sampled into MREQ, and the branch is taken on MREQ. -/
def execMChk (s : State) : Outcome State Fault Refusal :=
  whenEnabled .mChk (fun s => { s with mreq := s.preq, mpc := mainBranch s.preq }) s

/-- M_BLANK (R172). -/
def execMBlank (s : State) : Outcome State Fault Refusal :=
  whenEnabled .mBlank (fun s => s.blankPort.mainTo 2#4) s

/-- M_WIE_ON (R173): WAKE_IF is not touched. -/
def execMWieOn (s : State) : Outcome State Fault Refusal :=
  whenEnabled .mWieOn (fun s => { s with wakeIe := true, mpc := 3#4 }) s

/-- M_MODE_DEEP (R174). -/
def execMModeDeep (s : State) : Outcome State Fault Refusal :=
  whenEnabled .mModeDeep (fun s => { s with smode := .deep, mpc := 4#4 }) s

/-- M_ARM (R175), at position 4 and at position 8. -/
def execMArm (s : State) : Outcome State Fault Refusal :=
  whenEnabled .mArm (fun s => { s with se := true, mpc := s.mpc + 1#4 }) s

/-- M_REQ_NONE (R176): unconditional. -/
def execMReqNone (s : State) : Outcome State Fault Refusal :=
  whenEnabled .mReqNone (fun s => { s with preq := .none, mpc := 6#4 }) s

/-- M_SLEEP (R177), at position 6 and at position 9: the core halts only if SE is 1. -/
def execMSleep (s : State) : Outcome State Fault Refusal :=
  whenEnabled .mSleep (fun s => { s with sleeping := if s.se then true else s.sleeping, mpc := 0#4 }) s

/-- M_LED_ON (R178): unconditional, PREQ is not looked at again. -/
def execMLedOn (s : State) : Outcome State Fault Refusal :=
  whenEnabled .mLedOn (fun s => { s with pled := true, mpc := 8#4 }) s

end Sys2Proof.Machine
end

