-- ==== Sys2Proof/Machine/Power.lean ====
section
/-! DEFINITION. T_PWR, the Power Management State Machine (spec/42_power_sm.md R150 to R158). -/

namespace Sys2Proof.Machine

open Host

/-- The arm ButtonPressed, L_PRESSED (R152): count down while pressed, abort when released. -/
def armPressed (isPressed : Bool) (s : State) : State :=
  if isPressed then
    if decSat s.pcount = 0#16 then
      { s with pcount := decSat s.pcount, pled := true, preq := .buttonPressedLong }
    else { s with pcount := decSat s.pcount }
  else { s with preq := .none }

/-- The arm ButtonReleased, L_RELEASED (R155): count down while released, abort when pressed. -/
def armReleased (isPressed : Bool) (s : State) : State :=
  if isPressed then { s with preq := .none }
  else if decSat s.pcount = 0#16 then
    { s with pcount := decSat s.pcount, pled := false, ledbm := Params.bmpDark, preq := .powerDown }
  else { s with pcount := decSat s.pcount }

/-- PowerStep (R150), with the sample of the button. The arms that arm a countdown continue into the counting arm
(R158). -/
def powerStep (isPressed : Bool) (s : State) : State :=
  match s.preq with
  | .none =>
    if isPressed then armPressed isPressed { s with pcount := Params.pressTicks, preq := .buttonPressed }
    else { s with pled := false }
  | .buttonPressed => armPressed isPressed s
  | .buttonPressedLong =>
    if isPressed then s
    else armReleased isPressed { s with pcount := Params.releaseTicks, preq := .buttonReleased }
  | .buttonConfirmed => s
  | .buttonReleased => armReleased isPressed s
  | .powerDown => s
  | .powerUp => if isPressed then { s with pled := true } else { s with pled := false, preq := .none }

/-- T_PWR (R150): the button is sampled once, here. -/
def execTPwr (s : State) : Outcome State Fault Refusal :=
  whenEnabled .tPwr (fun s => (powerStep (pressed s) s).tickTo 3#4) s

end Sys2Proof.Machine
end

