-- ==== Sys2Proof/Machine/Tick.lean ====
section
/-! DEFINITION. The TICK handler and the multiplexer, but for T_ANIM and T_PWR (spec/40_tick_multiplexer.md R111 to
R119). -/

namespace Sys2Proof.Machine

open Host

/-- T_GATE (R111): both state machines are skipped while PREQ is PowerDown. -/
def execTGate (s : State) : Outcome State Fault Refusal :=
  whenEnabled .tGate (fun s => s.tickTo (if s.preq = .powerDown then 3#4 else 1#4)) s

/-- The effect of T_LATCH (R112): no update while FDIV is not 0 (FACTOR above 1 only); else the index, and the data
value by the new index. -/
def latch (s : State) : State :=
  if s.fdiv = 0#16 then
    { s with lidx := channelOf s.n, lval := dataValue s.ledbm (channelOf s.n) s.pled, tpc := 4#4 }
  else s.tickTo 7#4

/-- T_LATCH (R112). -/
def execTLatch (s : State) : Outcome State Fault Refusal :=
  whenEnabled .tLatch latch s

/-- T_SELCLR (R113). -/
def execTSelclr (s : State) : Outcome State Fault Refusal :=
  whenEnabled .tSelclr (fun s => { s with sel := 0b0000#4, tpc := 5#4 }) s

/-- T_SELSET (R114). -/
def execTSelset (s : State) : Outcome State Fault Refusal :=
  whenEnabled .tSelset (fun s => { s with sel := assertSelect s.sel s.lidx, tpc := 6#4 }) s

/-- T_DATA (R115). -/
def execTData (s : State) : Outcome State Fault Refusal :=
  whenEnabled .tData (fun s => { s with data := s.lval, tpc := 7#4 }) s

/-- The counters of T_INC for a given FACTOR (R116, R119): N moves only on the ticks on which FDIV is 0. -/
def advance (factor : Nat) (s : State) : State :=
  { s with
    n := if s.fdiv = 0#16 then nextN s.n else s.n
    fdiv := nextFdiv factor s.fdiv }

/-- T_INC (R116), with this hardware's FACTOR. -/
def execTInc (s : State) : Outcome State Fault Refusal :=
  whenEnabled .tInc (fun s => (advance Params.factor s).tickTo 8#4) s

/-- T_RET (R117). -/
def execTRet (s : State) : Outcome State Fault Refusal :=
  whenEnabled .tRet (fun s => s.leave .tick) s

end Sys2Proof.Machine
end

