-- ==== Sys2Proof/Machine/Wake.lean ====
section
/-! DEFINITION. The WAKE handler (spec/43_sleep_wake.md R185 to R192). -/

namespace Sys2Proof.Machine

open Host

/-- W_WIE_OFF (R186): the line is disabled and a pending edge is discarded. -/
def execWWieOff (s : State) : Outcome State Fault Refusal :=
  whenEnabled .wWieOff (fun s => { s with wakeIe := false, wakeIf := false, wpc := 1#3 }) s

/-- W_MODE_IDLE (R187). -/
def execWModeIdle (s : State) : Outcome State Fault Refusal :=
  whenEnabled .wModeIdle (fun s => { s with smode := .idle, wpc := 2#3 }) s

/-- W_SE_OFF (R188). -/
def execWSeOff (s : State) : Outcome State Fault Refusal :=
  whenEnabled .wSeOff (fun s => { s with se := false, wpc := 3#3 }) s

/-- W_LED_ON (R189). -/
def execWLedOn (s : State) : Outcome State Fault Refusal :=
  whenEnabled .wLedOn (fun s => { s with pled := true, wpc := 4#3 }) s

/-- W_REQ_UP (R190): whatever PREQ held. -/
def execWReqUp (s : State) : Outcome State Fault Refusal :=
  whenEnabled .wReqUp (fun s => { s with preq := .powerUp, wpc := 5#3 }) s

/-- W_ANIM_OFF (R191): ATIMER and LEDBM are left to the next T_ANIM. -/
def execWAnimOff (s : State) : Outcome State Fault Refusal :=
  whenEnabled .wAnimOff (fun s => { s with astate := .off, wpc := 6#3 }) s

/-- W_RET (R192). -/
def execWRet (s : State) : Outcome State Fault Refusal :=
  whenEnabled .wRet (fun s => s.leave .wake) s

end Sys2Proof.Machine
end

