-- ==== Sys2Proof/Machine/Dispatch.lean ====
section
/-! DEFINITION. The dispatch of an operation or event to its meaning. -/

namespace Sys2Proof.Machine

open Host

/-- The meaning of each operation and event (spec/30_encoding.md R81). -/
def exec (i : Instr) (s : State) : Host.Outcome State Fault Refusal :=
  match i with
  | .evReset => Sys2Proof.Machine.execEvReset s
  | .evTick => Sys2Proof.Machine.execEvTick s
  | .evBtn level => Sys2Proof.Machine.execEvBtn level s
  | .irqTick => Sys2Proof.Machine.execIrqTick s
  | .irqWake => Sys2Proof.Machine.execIrqWake s
  | .mChk => Sys2Proof.Machine.execMChk s
  | .mBlank => Sys2Proof.Machine.execMBlank s
  | .mWieOn => Sys2Proof.Machine.execMWieOn s
  | .mModeDeep => Sys2Proof.Machine.execMModeDeep s
  | .mArm => Sys2Proof.Machine.execMArm s
  | .mReqNone => Sys2Proof.Machine.execMReqNone s
  | .mSleep => Sys2Proof.Machine.execMSleep s
  | .mLedOn => Sys2Proof.Machine.execMLedOn s
  | .tGate => Sys2Proof.Machine.execTGate s
  | .tAnim => Sys2Proof.Machine.execTAnim s
  | .tPwr => Sys2Proof.Machine.execTPwr s
  | .tLatch => Sys2Proof.Machine.execTLatch s
  | .tSelclr => Sys2Proof.Machine.execTSelclr s
  | .tSelset => Sys2Proof.Machine.execTSelset s
  | .tData => Sys2Proof.Machine.execTData s
  | .tInc => Sys2Proof.Machine.execTInc s
  | .tRet => Sys2Proof.Machine.execTRet s
  | .wWieOff => Sys2Proof.Machine.execWWieOff s
  | .wModeIdle => Sys2Proof.Machine.execWModeIdle s
  | .wSeOff => Sys2Proof.Machine.execWSeOff s
  | .wLedOn => Sys2Proof.Machine.execWLedOn s
  | .wReqUp => Sys2Proof.Machine.execWReqUp s
  | .wAnimOff => Sys2Proof.Machine.execWAnimOff s
  | .wRet => Sys2Proof.Machine.execWRet s

end Sys2Proof.Machine
end

