-- ==== Sys2Proof/Machine/Step.lean ====
section
/-! DEFINITION. One step of the machine (spec/60_exceptions.md R233), and where the host places an operation. -/

namespace Sys2Proof.Machine

open Host

/-- One step: what is fetched is decoded and executed. In a quiescent state the block waits: the state stays
(spec/44_events_edge_detector.md R207, R241; notes/assumptions/6.md). -/
def step (s : State) : Host.Outcome State Fault Refusal :=
  match fetch s with
  | .word b s' =>
    match decode b with
    | .ok i => exec i s'
    | .error e => .refused (refusalOf e)
  | .quiescent => .next s
  | .emptyPosition => .refused .emptyPosition

/-- The state in which the very next step runs the operation of the code `w` (notes/assumptions/2.md). -/
def State.withFetchWord (s : State) (_nbits w : Nat) : State := placeNext s w

end Sys2Proof.Machine
end

