-- ==== Sys2Proof/Machine/Scenario.lean ====
section
/-! DEFINITION. Several steps, and the scenario pseudo-operations of spec/30_encoding.md R96. -/

namespace Sys2Proof.Machine

open Host

/-- `k` steps, stopping at the first refusal. -/
def stepN : Nat → State → Outcome State Fault Refusal
  | 0, s => .next s
  | k + 1, s =>
    match step s with
    | .next s' => stepN k s'
    | .fault r => .fault r
    | .refused r => .refused r

/-- One part of a run after another. -/
def andThen (o : Outcome State Fault Refusal) (f : State → Outcome State Fault Refusal) :
    Outcome State Fault Refusal :=
  match o with
  | .next s => f s
  | .fault r => .fault r
  | .refused r => .refused r

/-- The environment does this next, between two steps of the block (spec/60_exceptions.md R233). -/
def inject (i : Instr) (s : State) : State := { s with trace := encode i :: s.trace }

/-- The most steps the block takes before it is quiescent, with no further event
(spec/44_events_edge_detector.md R207). -/
def runFuel : Nat := 41

/-- RUN: enabled operations until none is enabled (R96). A quiescent state stays, so the fuel of R207 is enough
where the trace is empty (notes/assumptions/17.md). -/
def runQuiet (s : State) : Outcome State Fault Refusal := stepN runFuel s

/-- An event, then nothing else. -/
def playEvent (i : Instr) (s : State) : Outcome State Fault Refusal := step (inject i s)

/-- RESET is EV_RESET then RUN (R96). -/
def playReset (s : State) : Outcome State Fault Refusal := andThen (playEvent .evReset s) runQuiet

/-- TICK is EV_TICK then RUN (R96). -/
def playTick (s : State) : Outcome State Fault Refusal := andThen (playEvent .evTick s) runQuiet

/-- TICKS n is TICK repeated n times (R96). -/
def playTicks : Nat → State → Outcome State Fault Refusal
  | 0, s => .next s
  | n + 1, s => andThen (playTick s) (playTicks n)

/-- PRESS is EV_BTN 0 then RUN (R96). -/
def playPress (s : State) : Outcome State Fault Refusal := andThen (playEvent (.evBtn false) s) runQuiet

/-- RELEASE is EV_BTN 1 then RUN (R96). -/
def playRelease (s : State) : Outcome State Fault Refusal := andThen (playEvent (.evBtn true) s) runQuiet

/-- The next step executes this operation. -/
def nextIs (i : Instr) (s : State) : Bool :=
  match fetch s with
  | .word b _ => (decode b).toOption == some i
  | .quiescent => false
  | .emptyPosition => false

/-- UNTIL op: enabled operations up to and including the first execution of `op` (R96), within the fuel. -/
def playUntil (i : Instr) : Nat → State → Outcome State Fault Refusal
  | 0, s => .next s
  | k + 1, s => if nextIs i s then step s else andThen (step s) (playUntil i k)

end Sys2Proof.Machine
end

