-- ==== Sys2Proof/Safety.lean ====
section
/-! DEFINITION. The words claims are stated in: where an operation of a context executes, the invariants of
spec/10_state.md R46, quiescent and stuck states (spec/44_events_edge_detector.md R206, spec/60_exceptions.md R241),
and the states a run reaches. They are written from the spec's sentences over State's fields, not over the model's
own operations. -/

namespace Sys2Proof.Safety

open Sys2Proof.Machine

/-- "The wake interrupt is dispatchable" below level 2 (R224), said of its pending bit and its enable. -/
abbrev WakePending (s : State) : Prop := s.wakeIf = true ∧ s.wakeIe = true

/-- "MAIN runs" and MPC is `k` (spec/30_encoding.md R81). -/
abbrev MainAt (k : BitVec 4) (s : State) : Prop :=
  s.inwake = false ∧ s.intick = false ∧ s.sleeping = false ∧ ¬ WakePending s ∧ s.tickIf = false ∧ s.mpc = k

/-- "TICK runs" and TPC is `k` (R81). -/
abbrev TickAt (k : BitVec 4) (s : State) : Prop :=
  s.inwake = false ∧ s.intick = true ∧ ¬ WakePending s ∧ s.tpc = k

/-- "WAKE runs" and WPC is `k` (R81). -/
abbrev WakeAt (k : BitVec 3) (s : State) : Prop := s.inwake = true ∧ s.wpc = k

/-- IRQ_TICK is enabled (spec/60_exceptions.md R226). -/
abbrev TickTaken (s : State) : Prop :=
  s.tickIf = true ∧ s.intick = false ∧ s.inwake = false ∧ ¬ WakePending s

/-- IRQ_WAKE is enabled (R227). -/
abbrev WakeTaken (s : State) : Prop := s.wakeIf = true ∧ s.wakeIe = true ∧ s.inwake = false

/-- A quiescent state (spec/44_events_edge_detector.md R206). -/
abbrev Quiescent (s : State) : Prop :=
  s.sleeping = true ∧ s.intick = false ∧ s.inwake = false ∧ ¬ WakePending s ∧ s.tickIf = false

/-- The stuck family (spec/60_exceptions.md R241): halted in deep sleep with the wake line disabled. -/
abbrev Stuck (s : State) : Prop :=
  Quiescent s ∧ s.smode = .deep ∧ s.wakeIe = false

/-- The values ever written to LEDBM (spec/30_encoding.md R87). -/
abbrev bitmapConstants : List Word16 :=
  [0x050A#16, 0x0500#16, 0x05A0#16, 0x0A05#16, 0x0A00#16, 0x0A50#16, 0x0000#16]

/-- The values of SEL with at most one line active (spec/40_tick_multiplexer.md R121). -/
abbrev exclusiveSelects : List (BitVec 4) := [0b0000#4, 0b0001#4, 0b0010#4, 0b0100#4, 0b1000#4]

/-- The invariants of R46, (a) to (i), and what they need to be kept by every step. -/
structure SpecInv (s : State) : Prop where
  /-- R46 (a) -/
  bitmap : s.ledbm ∈ bitmapConstants
  /-- R46 (b) -/
  topNibble : s.ledbm.extractLsb' 12 4 = 0#4
  /-- R46 (c) -/
  atimer : s.atimer.toNat ≤ 15000
  /-- R46 (c) -/
  pcount : s.pcount.toNat ≤ 4000
  /-- R46 (c) -/
  counter : s.n.toNat ≤ 999
  /-- R46 (c) -/
  divider : s.fdiv.toNat < Params.factor
  /-- R46 (d), R35 -/
  wakeGated : s.wakeIf = true → s.wakeIe = true
  /-- R46 (e) -/
  unconfirmed : s.preq ≠ .buttonConfirmed
  /-- MREQ is a sample of PREQ (R30), so (e) holds of it too -/
  sampleUnconfirmed : s.mreq ≠ .buttonConfirmed
  /-- R46 (f), R121 -/
  selectExclusive : s.sel ∈ exclusiveSelects
  /-- R46 (g) -/
  haltedIdle : s.sleeping = true → s.intick = false ∧ s.inwake = false
  /-- R46 (h) -/
  tickRest : s.intick = false → s.tpc = 0#4
  /-- R46 (h) -/
  wakeRest : s.inwake = false → s.wpc = 0#3
  /-- R46 (i) -/
  counting : s.preq = .buttonPressed ∨ s.preq = .buttonReleased → 1 ≤ s.pcount.toNat ∧ s.pcount.toNat ≤ 3999
  /-- R42: "the values 10 to 15 never occur" -/
  mainPosition : s.mpc.toNat ≤ 9
  /-- R43 -/
  tickPosition : s.tpc.toNat ≤ 8
  /-- R44 -/
  wakePosition : s.wpc.toNat ≤ 6
  /-- R114: T_SELSET runs only directly after T_SELCLR in the TICK table -/
  selectCleared : s.tpc = 5#4 → s.sel = 0b0000#4
  /-- R112, R122: from T_LATCH to T_DATA the index is that of this tick -/
  indexLatched : s.tpc = 4#4 ∨ s.tpc = 5#4 ∨ s.tpc = 6#4 → s.lidx = BitVec.ofNat 2 (s.n.toNat % 4)
  /-- R114: after T_SELSET, SEL is `1 << LIDX` until T_DATA -/
  selectAsserted : s.tpc = 6#4 → s.sel = 1#4 <<< s.lidx.toNat
  /-- R223: after W_WIE_OFF the wake line stays disabled while the handler runs -/
  wakeDisabled : s.inwake = true → s.wpc ≠ 0#3 → s.wakeIe = false
  /-- R226: no tick is pending in deep sleep -/
  deepQuiet : s.sleeping = true → s.smode = .deep → s.tickIf = false
  /-- R171: the power-down path runs on a sampled PowerDown -/
  powerDownPath : 1 ≤ s.mpc.toNat ∧ s.mpc.toNat ≤ 6 → s.mreq = .powerDown
  /-- R171: M_LED_ON runs on a sampled PowerUp -/
  powerUpPath : s.mpc = 7#4 → s.mreq = .powerUp
  /-- R238: the core sleeps with MAIN at M_CHK -/
  sleepsAtCheck : s.sleeping = true → s.mpc = 0#4

/-- The states a run reaches: from reset, with either value of the two OPEN parameters, under any trace
(R233: events may stand anywhere in it). -/
inductive Reachable : State → Prop where
  | start (wakeIeReset btnReset : Bool) (trace : List Byte) :
      Reachable { State.resetWith wakeIeReset btnReset with trace := trace }
  | step (s t : State) : Reachable s → Machine.step s = .next t → Reachable t
  /-- the environment decides later what it injects -/
  | environment (s : State) (trace : List Byte) : Reachable s → Reachable { s with trace := trace }

/-- The events that are not a reset. -/
abbrev isInput : Instr → Bool
  | .evTick => true
  | .evBtn _ => true
  | _ => false

/-- The block can execute an operation after these events. -/
abbrev AwakenedBy (events : List Instr) (s : State) : Prop :=
  ∃ t, stepN events.length { s with trace := events.map encode } = .next t ∧ arbiter t ≠ .quiescent

end Sys2Proof.Safety
end

