-- ==== Sys2Proof/Certificates/Slice0/Obligations.lean ====
section
/-! DEFINITION. The statements for the provers. Each docstring names the rule of spec/ a statement formalises. The
hypotheses `MainAt`, `TickAt`, `WakeAt`, `TickTaken` and `WakeTaken` of Sys2Proof/Safety.lean are the conditions the
rules give under "Enabled when". -/

open Sys2Proof
open Sys2Proof.Machine
open Sys2Proof.Safety

/-! ### Encoding -/

/-- R80, R81, R94: decoding and encoding agree on every byte and every operation. That a code stands in a byte is the
model's choice (notes/assumptions/3.md). -/
def Obligations.DecodeAndEncodeAgree : Prop :=
  ∀ (b : Byte) (i : Instr), decode b = .ok i ↔ b = encode i

/-- R81: words written out from the table, one or more of every class, decode to their operations. -/
def Obligations.SpecWordsDecode : Prop :=
  decode 0b00000000#8 = .ok .evReset ∧ decode 0b00000001#8 = .ok .evTick ∧
  decode 0b00000010#8 = .ok (.evBtn false) ∧ decode 0b00000011#8 = .ok (.evBtn true) ∧
  decode 0b00000101#8 = .ok .irqWake ∧ decode 0b00010100#8 = .ok .mArm ∧
  decode 0b00010111#8 = .ok .mLedOn ∧ decode 0b00100001#8 = .ok .tAnim ∧
  decode 0b00101000#8 = .ok .tRet ∧ decode 0b00110110#8 = .ok .wRet

/-- R93: the decoder calls reserved exactly the 34 reserved codes. -/
def Obligations.DecoderRefusesExactlyReservedCodes : Prop :=
  ∀ c : Code, decode (0#2 ++ c) = .error (.reservedCode c) ↔
    (0x06 ≤ c.toNat ∧ c.toNat ≤ 0x0F) ∨ (0x18 ≤ c.toNat ∧ c.toNat ≤ 0x1F) ∨
    (0x29 ≤ c.toNat ∧ c.toNat ≤ 0x2F) ∨ (0x37 ≤ c.toNat ∧ c.toNat ≤ 0x3F)

/-- R90, R91: the numbers of the two enumerations, and that 7 names no value. -/
def Obligations.EnumerationsAreNumberedInListingOrder : Prop :=
  (∀ a : AnimationState, animationOfCode (animationCode a) = some a) ∧ animationOfCode 7#3 = none ∧
  (∀ p : PowerRequest, requestOfCode (requestCode p) = some p) ∧ requestOfCode 7#3 = none ∧
  animationCode .off = 0#3 ∧ animationCode .state1 = 1#3 ∧ animationCode .state2 = 2#3 ∧
  animationCode .state3 = 3#3 ∧ animationCode .state4 = 4#3 ∧ animationCode .state5 = 5#3 ∧
  animationCode .state6 = 6#3 ∧
  requestCode .none = 0#3 ∧ requestCode .buttonPressed = 1#3 ∧ requestCode .buttonPressedLong = 2#3 ∧
  requestCode .buttonConfirmed = 3#3 ∧ requestCode .buttonReleased = 4#3 ∧ requestCode .powerDown = 5#3 ∧
  requestCode .powerUp = 6#3

/-! ### The step -/

/-- A step runs the decoded operation: the trace's next code, which leaves the trace, or with an empty trace the
arbiter's choice. The trace is the model's own field (notes/assumptions/1.md). -/
def Obligations.StepRunsTheDecodedOperation : Prop :=
  (∀ (s : State) (b : Byte) (rest : List Byte) (i : Instr), s.trace = b :: rest → decode b = .ok i →
    step s = exec i { s with trace := rest }) ∧
  (∀ (s : State) (b : Byte) (i : Instr), s.trace = [] → arbiter s = .code b → decode b = .ok i →
    step s = exec i s)

/-- R93, I9: a trace whose next byte is no operation is refused by name. The trace and its byte are the model's own
(notes/assumptions/1.md, notes/assumptions/3.md). -/
def Obligations.StepRefusesWhatIsNoOperation : Prop :=
  (∀ (s : State) (b : Byte) (rest : List Byte) (c : Code), s.trace = b :: rest →
    decode b = .error (.reservedCode c) → step s = .refused (.reservedCode c)) ∧
  (∀ (s : State) (b : Byte) (rest : List Byte), s.trace = b :: rest → 64 ≤ b.toNat →
    step s = .refused (.notACode b))

/-- R82, R83, R84, R233: with an empty trace and no interrupt dispatchable, the block executes the operation at the
running context's position of its sequence table. -/
def Obligations.BlockFollowsTheSequenceTables : Prop :=
  ∀ (s : State) (i : Instr), s.trace = [] →
    (s.inwake = true →
      ([.wWieOff, .wModeIdle, .wSeOff, .wLedOn, .wReqUp, .wAnimOff, .wRet] : List Instr)[s.wpc.toNat]? = some i →
      step s = exec i s) ∧
    (s.inwake = false → s.intick = true → ¬ WakePending s →
      ([.tGate, .tAnim, .tPwr, .tLatch, .tSelclr, .tSelset, .tData, .tInc, .tRet] : List Instr)[s.tpc.toNat]? = some i →
      step s = exec i s) ∧
    (s.inwake = false → s.intick = false → s.sleeping = false → ¬ WakePending s → s.tickIf = false →
      ([.mChk, .mBlank, .mWieOn, .mModeDeep, .mArm, .mReqNone, .mSleep, .mLedOn, .mArm, .mSleep] :
        List Instr)[s.mpc.toNat]? = some i →
      step s = exec i s)

/-- R225: whenever an interrupt is dispatchable the next step is its IRQ operation, and no operation of a context
that it preempts executes; M_SLEEP among them never halts the core. -/
def Obligations.DispatchIsStrict : Prop :=
  ∀ s : State,
    (s.trace = [] → WakeTaken s → step s = exec .irqWake s) ∧
    (s.trace = [] → TickTaken s → step s = exec .irqTick s) ∧
    (∀ i : Instr, agentOf i = .main → WakeTaken s ∨ TickTaken s → exec i s = .refused .notEnabled) ∧
    (∀ i : Instr, agentOf i = .tick → WakeTaken s → exec i s = .refused .notEnabled)

/-- R81, R93, R233: an operation of the block executes exactly where the step relation selects it, and is refused
everywhere else. -/
def Obligations.OperationExecutesExactlyWhenSelected : Prop :=
  ∀ (i : Instr) (s : State), agentOf i ≠ .environment →
    ((∃ t, exec i s = .next t) ↔ ∃ b, arbiter s = .code b ∧ decode b = .ok i) ∧
    ((¬ ∃ t, exec i s = .next t) → exec i s = .refused .notEnabled)

/-- R206: the arbiter selects nothing exactly in the quiescent states; there, with an empty trace, the state stays
(that `step` answers the same state is the model's, notes/assumptions/6.md). -/
def Obligations.QuiescentStateWaits : Prop :=
  ∀ s : State, (arbiter s = .quiescent ↔ Quiescent s) ∧ (Quiescent s → s.trace = [] → step s = .next s)

/-- No operation or event touches the model's own field `trace` (notes/assumptions/1.md, notes/assumptions/14.md). -/
def Obligations.ExecKeepsTheTrace : Prop :=
  ∀ (i : Instr) (s t : State), exec i s = .next t → t.trace = s.trace

/-! ### Reset and events -/

/-- R45: the reset table, for each value of the two OPEN parameters. -/
def Obligations.ResetHoldsTheTable : Prop :=
  ∀ w b : Bool, ∃ r : State, r = State.resetWith w b ∧
    r.ledbm = 0x0000#16 ∧ r.astate = .off ∧ r.atimer = 0#16 ∧ r.preq = .none ∧ r.pcount = 0#16 ∧ r.pled = false ∧
    r.n = 0#16 ∧ r.fdiv = 0#16 ∧ r.lidx = 0#2 ∧ r.lval = 0#5 ∧ r.mreq = .none ∧ r.sel = 0b0000#4 ∧
    r.data = 0b00000#5 ∧ r.btn = b ∧ r.wakeIe = w ∧ r.wakeIf = false ∧ r.tickIf = false ∧ r.tickIe = true ∧
    r.smode = .idle ∧ r.se = false ∧ r.sleeping = false ∧ r.intick = false ∧ r.inwake = false ∧ r.mpc = 0#4 ∧
    r.tpc = 0#4 ∧ r.wpc = 0#3

/-- R201, R8, R264: EV_RESET gives every register its reset value, from every state, WAKE_IE and BTN the machine's own
parameters. The trace stays: it is the model's own field (notes/assumptions/14.md), as `resetParams` is
(notes/assumptions/21.md). -/
def Obligations.EvResetWritesEveryRegister : Prop :=
  ∀ s : State, exec .evReset s =
    .next { State.resetWith s.resetParams.wakeIe s.resetParams.btn with trace := s.trace }

/-- R202: EV_TICK sets TICK_IF, and is discarded in deep sleep, in every state. -/
def Obligations.EvTickSetsPendingUnlessDeep : Prop :=
  encode .evTick = 0x01#8 ∧ ∀ s : State,
    (s.sleeping = true ∧ s.smode = .deep → exec .evTick s = .next s) ∧
    (¬ (s.sleeping = true ∧ s.smode = .deep) → exec .evTick s = .next { s with tickIf := true })

/-- R203, R204: EV_BTN moves the line, and a falling edge while the wake line is enabled sets WAKE_IF, in every
state. -/
def Obligations.EvBtnMovesLineAndDetectsEdge : Prop :=
  encode (.evBtn false) = 0x02#8 ∧ encode (.evBtn true) = 0x03#8 ∧ ∀ (s : State) (l : Bool),
    (s.btn = true ∧ l = false ∧ s.wakeIe = true →
      exec (.evBtn l) s = .next { s with btn := l, wakeIf := true }) ∧
    (¬ (s.btn = true ∧ l = false ∧ s.wakeIe = true) → exec (.evBtn l) s = .next { s with btn := l })

/-- R263: the first steps after reset, and the first tick, with the button released. -/
def Obligations.FirstStepsAfterReset : Prop :=
  (∀ w b : Bool, stepN 3 (State.resetWith w b) =
    .next { State.resetWith w b with se := true, sleeping := true }) ∧
  (∀ w : Bool, ∃ t : State,
    stepN 14 { State.resetWith w true with se := true, sleeping := true, trace := [encode .evTick] } = .next t ∧
    t.ledbm = 0x050A#16 ∧ t.astate = .state1 ∧ t.atimer = 14999#16 ∧ t.n = 1#16 ∧ t.sel = 0b0001#4 ∧
    t.data = 0x0A#5 ∧ Quiescent t)

/-! ### Interrupts -/

/-- R226: taking the tick interrupt; under the invariants it cannot occur in deep sleep. -/
def Obligations.IrqTickEntersTickHandler : Prop :=
  encode .irqTick = 0x04#8 ∧ ∀ s : State,
    (TickTaken s → exec .irqTick s =
      .next { s with tickIf := false, intick := true, tpc := 0#4, sleeping := false }) ∧
    (¬ TickTaken s → exec .irqTick s = .refused .notEnabled) ∧
    (SpecInv s → s.sleeping = true → s.smode = .deep → exec .irqTick s = .refused .notEnabled)

/-- R227: taking the wake interrupt; the TICK handler's bit and counter keep their values. -/
def Obligations.IrqWakeEntersWakeHandler : Prop :=
  encode .irqWake = 0x05#8 ∧ ∀ s : State,
    (WakeTaken s → exec .irqWake s =
      .next { s with wakeIf := false, inwake := true, wpc := 0#3, sleeping := false }) ∧
    (¬ WakeTaken s → exec .irqWake s = .refused .notEnabled)

/-- R238: what ends a sleep; after it MAIN is at M_CHK, and only EV_RESET changes SE. -/
def Obligations.SleepEndsOnlyByDispatchOrReset : Prop :=
  ∀ (i : Instr) (s t : State), SpecInv s → s.sleeping = true → exec i s = .next t → t.sleeping = false →
    (i = .evReset ∨ i = .irqWake ∨ (i = .irqTick ∧ s.smode = .idle)) ∧ t.mpc = 0#4 ∧
    (i ≠ .evReset → t.se = s.se)

/-! ### The TICK handler -/

/-- R111: T_GATE. -/
def Obligations.GateSkipsStateMachinesInPowerDown : Prop :=
  encode .tGate = 0x20#8 ∧ ∀ s : State,
    (TickAt 0#4 s → exec .tGate s = .next { s with tpc := if s.preq = .powerDown then 3#4 else 1#4 }) ∧
    (¬ TickAt 0#4 s → exec .tGate s = .refused .notEnabled)

/-- R112: T_LATCH, both arms, with the data value's formula of R88 over natural numbers. -/
def Obligations.LatchComputesIndexAndValue : Prop :=
  encode .tLatch = 0x23#8 ∧ ∀ s : State,
    (TickAt 3#4 s → s.fdiv = 0#16 → exec .tLatch s = .next { s with
      lidx := BitVec.ofNat 2 (s.n.toNat % 4)
      lval := BitVec.ofNat 5
        (((s.ledbm.toNat >>> (4 * (s.n.toNat % 4))) &&& 0xF) ||| (if s.pled then 0x10 else 0))
      tpc := 4#4 }) ∧
    (TickAt 3#4 s → s.fdiv ≠ 0#16 → exec .tLatch s = .next { s with tpc := 7#4 }) ∧
    (¬ TickAt 3#4 s → exec .tLatch s = .refused .notEnabled)

/-- R85, R86, R88, R120: the data value latched for channel i holds bit 4 i + d of the bitmap at its bit d and PLED at
bit 4, and with an empty trace the four steps T_LATCH, T_SELCLR, T_SELSET and T_DATA bring it to the data lines, with
line i alone selected; on channel 3 the four lines are 0. -/
def Obligations.DataLinesPresentBitmapBits : Prop :=
  ∀ s : State, SpecInv s → TickAt 3#4 s →
    (∃ t : State, exec .tLatch s = .next t ∧
      (∀ d : Nat, d < 4 → t.lval.getLsbD d = s.ledbm.getLsbD (4 * (s.n.toNat % 4) + d)) ∧
      t.lval.getLsbD 4 = s.pled ∧
      (s.n.toNat % 4 = 3 → t.lval.extractLsb' 0 4 = 0#4)) ∧
    (s.trace = [] → ∃ t : State, stepN 4 s = .next t ∧ t.tpc = 7#4 ∧
      (∀ i : Nat, i < 4 → t.sel.getLsbD i = decide (i = s.n.toNat % 4)) ∧
      (∀ d : Nat, d < 4 → t.data.getLsbD d = s.ledbm.getLsbD (4 * (s.n.toNat % 4) + d)) ∧
      t.data.getLsbD 4 = s.pled ∧
      (s.n.toNat % 4 = 3 → t.sel = 0b1000#4 ∧ t.data.extractLsb' 0 4 = 0#4))

/-- R113: T_SELCLR clears the select lines and nothing else. -/
def Obligations.SelclrClearsEveryLine : Prop :=
  encode .tSelclr = 0x24#8 ∧ ∀ s : State,
    (TickAt 4#4 s → exec .tSelclr s = .next { s with sel := 0b0000#4, tpc := 5#4 }) ∧
    (¬ TickAt 4#4 s → exec .tSelclr s = .refused .notEnabled)

/-- R114: T_SELSET asserts the latched channel's line; under the invariants SEL is then `1 << LIDX`. -/
def Obligations.SelsetAssertsLatchedChannel : Prop :=
  encode .tSelset = 0x25#8 ∧ ∀ s : State,
    (TickAt 5#4 s → exec .tSelset s = .next { s with sel := s.sel ||| (1#4 <<< s.lidx.toNat), tpc := 6#4 }) ∧
    (TickAt 5#4 s → SpecInv s → exec .tSelset s = .next { s with sel := 1#4 <<< s.lidx.toNat, tpc := 6#4 }) ∧
    (¬ TickAt 5#4 s → exec .tSelset s = .refused .notEnabled)

/-- R115: T_DATA writes the latched value. -/
def Obligations.DataWritesLatchedValue : Prop :=
  encode .tData = 0x26#8 ∧ ∀ s : State,
    (TickAt 6#4 s → exec .tData s = .next { s with data := s.lval, tpc := 7#4 }) ∧
    (¬ TickAt 6#4 s → exec .tData s = .refused .notEnabled)

/-- R116: T_INC. -/
def Obligations.IncAdvancesTickCounter : Prop :=
  encode .tInc = 0x27#8 ∧ ∀ s : State,
    (TickAt 7#4 s → exec .tInc s = .next { s with
      n := if s.fdiv = 0#16 then BitVec.ofNat 16 ((s.n.toNat + 1) % 1000) else s.n
      fdiv := BitVec.ofNat 16 ((s.fdiv.toNat + 1) % Params.factor)
      tpc := 8#4 }) ∧
    (¬ TickAt 7#4 s → exec .tInc s = .refused .notEnabled)

/-- R117, R229: T_RET. -/
def Obligations.TickReturnEndsHandler : Prop :=
  encode .tRet = 0x28#8 ∧ ∀ s : State,
    (TickAt 8#4 s → exec .tRet s = .next { s with intick := false, tpc := 0#4 }) ∧
    (¬ TickAt 8#4 s → exec .tRet s = .refused .notEnabled)

/-- R119, its choice D10 for a general FACTOR: N advances once in FACTOR ticks, on the first of them, FDIV counts them,
and T_LATCH skips the multiplex update on all of them but the first. FACTOR as an argument of `advance`, and the bound
65536 of `factorWellFormed`, are the model's (notes/assumptions/11.md); every step of this machine uses FACTOR = 1. -/
def Obligations.FactorDividesTheUpdates : Prop :=
  ∀ (factor k : Nat) (s : State), factorWellFormed factor = true → s.fdiv = 0#16 → 1 ≤ k → k ≤ factor →
    ∃ t : State, t = (advance factor)^[k] s ∧
      t = { s with n := BitVec.ofNat 16 ((s.n.toNat + 1) % 1000), fdiv := BitVec.ofNat 16 (k % factor) } ∧
      (k < factor → latch t = { t with tpc := 7#4 }) ∧
      (k = factor → latch t = { t with
        lidx := BitVec.ofNat 2 (t.n.toNat % 4)
        lval := BitVec.ofNat 5
          (((t.ledbm.toNat >>> (4 * (t.n.toNat % 4))) &&& 0xF) ||| (if t.pled then 0x10 else 0))
        tpc := 4#4 })

/-- R118: one undisturbed run of the TICK handler, from its dispatch to its return, with FACTOR = 1. -/
def Obligations.UndisturbedTickRun : Prop :=
  ∀ s p : State, ∀ v : BitVec 5, TickTaken s → s.trace = [] → s.fdiv = 0#16 →
    p = (if s.preq = .powerDown then s else powerStep (!s.btn) (animStep s)) →
    v = BitVec.ofNat 5 (((p.ledbm.toNat >>> (4 * (s.n.toNat % 4))) &&& 0xF) ||| (if p.pled then 0x10 else 0)) →
    stepN (if s.preq = .powerDown then 8 else 10) s = .next { p with
      tickIf := false
      sleeping := false
      intick := false
      tpc := 0#4
      lidx := BitVec.ofNat 2 (s.n.toNat % 4)
      lval := v
      sel := 1#4 <<< (s.n.toNat % 4)
      data := v
      n := BitVec.ofNat 16 ((s.n.toNat + 1) % 1000) }

/-! ### The Animation State Machine -/

/-- R131, R138: T_ANIM in Off. -/
def Obligations.AnimationLeavesOffAtOnce : Prop :=
  encode .tAnim = 0x21#8 ∧ ∀ s : State,
    (TickAt 1#4 s → s.astate = .off → exec .tAnim s = .next { s with
      atimer := 14999#16, ledbm := 0x050A#16, astate := .state1, tpc := 2#4 }) ∧
    (¬ TickAt 1#4 s → exec .tAnim s = .refused .notEnabled)

/-- R132, R134, R135, R137, R138: T_ANIM in State1, State3, State4 and State6. -/
def Obligations.AnimationHoldsUntilTimerZero : Prop :=
  ∀ s : State, TickAt 1#4 s →
    (s.astate = .state1 ∧ s.atimer = 0#16 →
      exec .tAnim s = .next { s with astate := .state2, atimer := 3999#16, tpc := 2#4 }) ∧
    (s.astate = .state3 ∧ s.atimer = 0#16 →
      exec .tAnim s = .next { s with astate := .state4, atimer := 14999#16, ledbm := 0x0A05#16, tpc := 2#4 }) ∧
    (s.astate = .state4 ∧ s.atimer = 0#16 →
      exec .tAnim s = .next { s with astate := .state5, atimer := 3999#16, tpc := 2#4 }) ∧
    (s.astate = .state6 ∧ s.atimer = 0#16 →
      exec .tAnim s = .next { s with astate := .off, tpc := 2#4 }) ∧
    (s.astate ∈ [.state1, .state3, .state4, .state6] ∧ s.atimer ≠ 0#16 →
      exec .tAnim s = .next { s with atimer := s.atimer - 1#16, tpc := 2#4 })

/-- R133, R136, R138: T_ANIM in State2 and State5. -/
def Obligations.AnimationBlinksUntilTimerZero : Prop :=
  ∀ s : State, TickAt 1#4 s →
    (s.astate = .state2 ∧ s.atimer = 0#16 →
      exec .tAnim s = .next { s with astate := .state3, atimer := 2999#16, ledbm := 0x05A0#16, tpc := 2#4 }) ∧
    (s.astate = .state2 ∧ s.atimer ≠ 0#16 → exec .tAnim s = .next { s with
      atimer := s.atimer - 1#16
      ledbm := if s.atimer.toNat % 800 > 400 then 0x050A#16 else 0x0500#16
      tpc := 2#4 }) ∧
    (s.astate = .state5 ∧ s.atimer = 0#16 →
      exec .tAnim s = .next { s with astate := .state6, atimer := 2999#16, ledbm := 0x0A50#16, tpc := 2#4 }) ∧
    (s.astate = .state5 ∧ s.atimer ≠ 0#16 → exec .tAnim s = .next { s with
      atimer := s.atimer - 1#16
      ledbm := if s.atimer.toNat % 800 > 400 then 0x0A05#16 else 0x0A00#16
      tpc := 2#4 })

/-- R140: the timeline of the animation from Off, in T_ANIM steps, and its period of 44001 steps. -/
def Obligations.AnimationCycleRepeats : Prop :=
  ∀ s : State, s.astate = .off → ∃ look : Nat → AnimationState × Word16 × Word16,
    (∀ k, look k = ((animStep^[k] s).astate, (animStep^[k] s).atimer, (animStep^[k] s).ledbm)) ∧
    look 1 = (.state1, 14999#16, 0x050A#16) ∧ look 15000 = (.state1, 0#16, 0x050A#16) ∧
    look 15001 = (.state2, 3999#16, 0x050A#16) ∧ look 19001 = (.state3, 2999#16, 0x05A0#16) ∧
    look 22001 = (.state4, 14999#16, 0x0A05#16) ∧ look 37001 = (.state5, 3999#16, 0x0A05#16) ∧
    look 41001 = (.state6, 2999#16, 0x0A50#16) ∧ look 44001 = (.off, 0#16, 0x0A50#16) ∧
    (∀ k, 1 ≤ k → look (k + 44001) = look k)

/-! ### The Power Management State Machine -/

/-- R151, R152, R158: T_PWR in None and ButtonPressed. -/
def Obligations.PowerCountsThePress : Prop :=
  encode .tPwr = 0x22#8 ∧ ∀ s : State,
    (¬ TickAt 2#4 s → exec .tPwr s = .refused .notEnabled) ∧
    (TickAt 2#4 s → s.preq = .none → s.btn = true → exec .tPwr s = .next { s with pled := false, tpc := 3#4 }) ∧
    (TickAt 2#4 s → s.preq = .none → s.btn = false →
      exec .tPwr s = .next { s with pcount := 3999#16, preq := .buttonPressed, tpc := 3#4 }) ∧
    (TickAt 2#4 s → s.preq = .buttonPressed → s.btn = true →
      exec .tPwr s = .next { s with preq := .none, tpc := 3#4 }) ∧
    (TickAt 2#4 s → s.preq = .buttonPressed → s.btn = false → s.pcount.toNat ≤ 1 →
      exec .tPwr s = .next { s with pcount := 0#16, pled := true, preq := .buttonPressedLong, tpc := 3#4 }) ∧
    (TickAt 2#4 s → s.preq = .buttonPressed → s.btn = false → 2 ≤ s.pcount.toNat →
      exec .tPwr s = .next { s with pcount := s.pcount - 1#16, tpc := 3#4 })

/-- R153, R155, R158: T_PWR in ButtonPressedLong and ButtonReleased. -/
def Obligations.PowerCountsTheRelease : Prop :=
  ∀ s : State, TickAt 2#4 s →
    (s.preq = .buttonPressedLong → s.btn = false → exec .tPwr s = .next { s with tpc := 3#4 }) ∧
    (s.preq = .buttonPressedLong → s.btn = true →
      exec .tPwr s = .next { s with pcount := 3999#16, preq := .buttonReleased, tpc := 3#4 }) ∧
    (s.preq = .buttonReleased → s.btn = false → exec .tPwr s = .next { s with preq := .none, tpc := 3#4 }) ∧
    (s.preq = .buttonReleased → s.btn = true → s.pcount.toNat ≤ 1 → exec .tPwr s = .next { s with
      pcount := 0#16, pled := false, ledbm := 0x0000#16, preq := .powerDown, tpc := 3#4 }) ∧
    (s.preq = .buttonReleased → s.btn = true → 2 ≤ s.pcount.toNat →
      exec .tPwr s = .next { s with pcount := s.pcount - 1#16, tpc := 3#4 })

/-- R154, R156, R157: T_PWR in ButtonConfirmed, PowerDown and PowerUp. -/
def Obligations.PowerRestsAndEndsPowerUp : Prop :=
  ∀ s : State, TickAt 2#4 s →
    (s.preq = .buttonConfirmed ∨ s.preq = .powerDown → exec .tPwr s = .next { s with tpc := 3#4 }) ∧
    (s.preq = .powerUp → s.btn = true →
      exec .tPwr s = .next { s with pled := false, preq := .none, tpc := 3#4 }) ∧
    (s.preq = .powerUp → s.btn = false → exec .tPwr s = .next { s with pled := true, tpc := 3#4 })

/-- R159: the debounce counts, in consecutive samples of T_PWR. -/
def Obligations.DebounceCountsAreFourThousand : Prop :=
  ∀ (s : State) (p r : Nat), s.preq = .none → s.pled = false →
    (1 ≤ p → p ≤ 3999 →
      ((powerStep true)^[p] s).preq = .buttonPressed ∧ ((powerStep true)^[p] s).pled = false ∧
      ((powerStep true)^[p] s).pcount = BitVec.ofNat 16 (4000 - p) ∧
      (powerStep false ((powerStep true)^[p] s)).preq = .none ∧
      (powerStep false ((powerStep true)^[p] s)).pled = false) ∧
    (4000 ≤ p →
      ((powerStep true)^[p] s).preq = .buttonPressedLong ∧ ((powerStep true)^[p] s).pled = true ∧
      (1 ≤ r → r ≤ 3999 →
        ((powerStep false)^[r] ((powerStep true)^[p] s)).preq = .buttonReleased ∧
        ((powerStep false)^[r] ((powerStep true)^[p] s)).pled = true ∧
        (powerStep true ((powerStep false)^[r] ((powerStep true)^[p] s))).preq = .none ∧
        (powerStep true ((powerStep false)^[r] ((powerStep true)^[p] s))).pled = true) ∧
      (4000 ≤ r →
        ((powerStep false)^[r] ((powerStep true)^[p] s)).preq = .powerDown ∧
        ((powerStep false)^[r] ((powerStep true)^[p] s)).pled = false ∧
        ((powerStep false)^[r] ((powerStep true)^[p] s)).ledbm = 0x0000#16))

/-! ### MAIN -/

/-- R171: M_CHK. -/
def Obligations.CheckSamplesRequestAndBranches : Prop :=
  encode .mChk = 0x10#8 ∧ ∀ s : State,
    (MainAt 0#4 s → exec .mChk s = .next { s with
      mreq := s.preq
      mpc := if s.preq = .powerDown then 1#4 else if s.preq = .powerUp then 7#4 else 8#4 }) ∧
    (¬ MainAt 0#4 s → exec .mChk s = .refused .notEnabled)

/-- R172: M_BLANK. -/
def Obligations.BlankClearsBothOutputs : Prop :=
  encode .mBlank = 0x11#8 ∧ ∀ s : State,
    (MainAt 1#4 s → exec .mBlank s = .next { s with sel := 0b0000#4, data := 0b00000#5, mpc := 2#4 }) ∧
    (¬ MainAt 1#4 s → exec .mBlank s = .refused .notEnabled)

/-- R173: M_WIE_ON; WAKE_IF is not written. -/
def Obligations.WieOnEnablesWakeLine : Prop :=
  encode .mWieOn = 0x12#8 ∧ ∀ s : State,
    (MainAt 2#4 s → exec .mWieOn s = .next { s with wakeIe := true, mpc := 3#4 }) ∧
    (¬ MainAt 2#4 s → exec .mWieOn s = .refused .notEnabled)

/-- R174: M_MODE_DEEP. -/
def Obligations.ModeDeepSelectsDeepSleep : Prop :=
  encode .mModeDeep = 0x13#8 ∧ ∀ s : State,
    (MainAt 3#4 s → exec .mModeDeep s = .next { s with smode := .deep, mpc := 4#4 }) ∧
    (¬ MainAt 3#4 s → exec .mModeDeep s = .refused .notEnabled)

/-- R175: M_ARM, at both of its positions. -/
def Obligations.ArmSetsSleepEnable : Prop :=
  encode .mArm = 0x14#8 ∧ ∀ s : State,
    (MainAt 4#4 s → exec .mArm s = .next { s with se := true, mpc := 5#4 }) ∧
    (MainAt 8#4 s → exec .mArm s = .next { s with se := true, mpc := 9#4 }) ∧
    (¬ MainAt 4#4 s → ¬ MainAt 8#4 s → exec .mArm s = .refused .notEnabled)

/-- R176: M_REQ_NONE, whatever PREQ holds. -/
def Obligations.ReqNoneClearsRequest : Prop :=
  encode .mReqNone = 0x15#8 ∧ ∀ s : State,
    (MainAt 5#4 s → exec .mReqNone s = .next { s with preq := .none, mpc := 6#4 }) ∧
    (¬ MainAt 5#4 s → exec .mReqNone s = .refused .notEnabled)

/-- R177: M_SLEEP, at both of its positions: it halts the core if SE is 1 and only then. -/
def Obligations.SleepHaltsOnlyWhenArmed : Prop :=
  encode .mSleep = 0x16#8 ∧ ∀ s : State,
    (MainAt 6#4 s ∨ MainAt 9#4 s → s.se = true →
      exec .mSleep s = .next { s with sleeping := true, mpc := 0#4 }) ∧
    (MainAt 6#4 s ∨ MainAt 9#4 s → s.se = false → exec .mSleep s = .next { s with mpc := 0#4 }) ∧
    (¬ MainAt 6#4 s → ¬ MainAt 9#4 s → exec .mSleep s = .refused .notEnabled)

/-- R178: M_LED_ON. -/
def Obligations.LedOnForcesPowerLed : Prop :=
  encode .mLedOn = 0x17#8 ∧ ∀ s : State,
    (MainAt 7#4 s → exec .mLedOn s = .next { s with pled := true, mpc := 8#4 }) ∧
    (¬ MainAt 7#4 s → exec .mLedOn s = .refused .notEnabled)

/-- R194, R82: an undisturbed power-down path enters deep sleep with the wake line enabled. -/
def Obligations.PowerDownPathSleepsWithWakeEnabled : Prop :=
  ∀ s : State, MainAt 0#4 s → s.preq = .powerDown → s.wakeIf = false → s.trace = [] →
    stepN 7 s = .next { s with
      mreq := .powerDown, sel := 0b0000#4, data := 0b00000#5, wakeIe := true, smode := .deep, se := true,
      preq := .none, sleeping := true, mpc := 0#4 }

/-! ### WAKE -/

/-- R186: W_WIE_OFF. -/
def Obligations.WieOffDisablesAndDiscards : Prop :=
  encode .wWieOff = 0x30#8 ∧ ∀ s : State,
    (WakeAt 0#3 s → exec .wWieOff s = .next { s with wakeIe := false, wakeIf := false, wpc := 1#3 }) ∧
    (¬ WakeAt 0#3 s → exec .wWieOff s = .refused .notEnabled)

/-- R187, R188, R189, R190, R191: the WAKE operations that write one register. -/
def Obligations.WakeHandlerWritesOneRegisterEach : Prop :=
  encode .wModeIdle = 0x31#8 ∧ encode .wSeOff = 0x32#8 ∧ encode .wLedOn = 0x33#8 ∧ encode .wReqUp = 0x34#8 ∧
  encode .wAnimOff = 0x35#8 ∧ ∀ s : State,
    (WakeAt 1#3 s → exec .wModeIdle s = .next { s with smode := .idle, wpc := 2#3 }) ∧
    (¬ WakeAt 1#3 s → exec .wModeIdle s = .refused .notEnabled) ∧
    (WakeAt 2#3 s → exec .wSeOff s = .next { s with se := false, wpc := 3#3 }) ∧
    (¬ WakeAt 2#3 s → exec .wSeOff s = .refused .notEnabled) ∧
    (WakeAt 3#3 s → exec .wLedOn s = .next { s with pled := true, wpc := 4#3 }) ∧
    (¬ WakeAt 3#3 s → exec .wLedOn s = .refused .notEnabled) ∧
    (WakeAt 4#3 s → exec .wReqUp s = .next { s with preq := .powerUp, wpc := 5#3 }) ∧
    (¬ WakeAt 4#3 s → exec .wReqUp s = .refused .notEnabled) ∧
    (WakeAt 5#3 s → exec .wAnimOff s = .next { s with astate := .off, wpc := 6#3 }) ∧
    (¬ WakeAt 5#3 s → exec .wAnimOff s = .refused .notEnabled)

/-- R192, R229: W_RET; the preempted context's bit and counter are untouched. -/
def Obligations.WakeReturnEndsHandler : Prop :=
  encode .wRet = 0x36#8 ∧ ∀ s : State,
    (WakeAt 6#3 s → exec .wRet s = .next { s with inwake := false, wpc := 0#3 }) ∧
    (¬ WakeAt 6#3 s → exec .wRet s = .refused .notEnabled)

/-- R195: one undisturbed run of the WAKE handler, from IRQ_WAKE to W_RET. -/
def Obligations.UndisturbedWakeRun : Prop :=
  ∀ s : State, WakeTaken s → s.trace = [] →
    stepN 8 s = .next { s with
      wakeIe := false, wakeIf := false, smode := .idle, se := false, pled := true, preq := .powerUp,
      astate := .off, sleeping := false, inwake := false, wpc := 0#3 }

/-- R270, cases A, B, C and D: a wake edge inside the power-down path, by the MAIN operation that executes next. In
case A the block is stuck. -/
def Obligations.WakeEdgeInsidePowerDownPath : Prop :=
  ∀ s : State, s.inwake = false → s.intick = false → s.sleeping = false → s.tickIf = false → s.wakeIf = false →
    s.wakeIe = true → s.btn = true → s.trace = [encode (.evBtn false)] →
    (s.mpc = 3#4 → ∃ t : State, stepN 13 s = .next t ∧ Stuck t ∧ t = { s with
      btn := false, trace := [], wakeIe := false, smode := .deep, se := true, pled := true, preq := .none,
      astate := .off, sleeping := true, mpc := 0#4, wpc := 0#3 }) ∧
    (s.mpc = 4#4 → stepN 12 s = .next { s with
      btn := false, trace := [], wakeIe := false, smode := .idle, se := true, pled := true, preq := .none,
      astate := .off, sleeping := true, mpc := 0#4, wpc := 0#3 }) ∧
    (s.mpc = 5#4 → stepN 14 s = .next { s with
      btn := false, trace := [], wakeIe := false, smode := .idle, se := true, pled := true, preq := .none,
      mreq := .none, astate := .off, sleeping := true, mpc := 0#4, wpc := 0#3 }) ∧
    (s.mpc = 6#4 → stepN 14 s = .next { s with
      btn := false, trace := [], wakeIe := false, smode := .idle, se := true, pled := true, preq := .powerUp,
      mreq := .powerUp, astate := .off, sleeping := true, mpc := 0#4, wpc := 0#3 })

/-! ### The whole machine -/

/-- The invariants hold at reset, for each value of the two OPEN parameters. -/
def Obligations.ResetSatisfiesInvariants : Prop :=
  ∀ w b : Bool, SpecInv (State.resetWith w b)

/-- Every step keeps the invariants, from every state that has them, whatever its trace. -/
def Obligations.EveryStepKeepsInvariants : Prop :=
  ∀ s t : State, SpecInv s → step s = .next t → SpecInv t

/-- R46 (a) to (i), R121: what holds in every state reachable from reset. -/
def Obligations.ReachableStatesKeepSpecInvariants : Prop :=
  ∀ s : State, Reachable s →
    s.ledbm ∈ [0x0000#16, 0x050A#16, 0x0500#16, 0x05A0#16, 0x0A05#16, 0x0A00#16, 0x0A50#16] ∧
    s.ledbm.extractLsb' 12 4 = 0#4 ∧
    (s.atimer.toNat ≤ 15000 ∧ s.pcount.toNat ≤ 4000 ∧ s.n.toNat ≤ 999 ∧ s.fdiv.toNat < Params.factor) ∧
    (s.wakeIf = true → s.wakeIe = true) ∧
    s.preq ≠ .buttonConfirmed ∧
    s.sel ∈ [0b0000#4, 0b0001#4, 0b0010#4, 0b0100#4, 0b1000#4] ∧
    (s.sleeping = true → s.intick = false ∧ s.inwake = false) ∧
    (s.intick = false → s.tpc = 0#4) ∧ (s.inwake = false → s.wpc = 0#3) ∧
    (s.preq = .buttonPressed → 1 ≤ s.pcount.toNat ∧ s.pcount.toNat ≤ 3999) ∧
    (s.preq = .buttonReleased → 1 ≤ s.pcount.toNat ∧ s.pcount.toNat ≤ 3999)

/-- R20, R48: only the operations of the "written by" column change a register; EV_RESET is left out, as in the
column. -/
def Obligations.OnlyListedWritersChangeRegisters : Prop :=
  ∀ (i : Instr) (s t : State), exec i s = .next t → i ≠ .evReset →
    (t.ledbm ≠ s.ledbm → i ∈ [.tAnim, .tPwr]) ∧
    (t.astate ≠ s.astate → i ∈ [.tAnim, .wAnimOff]) ∧
    (t.atimer ≠ s.atimer → i = .tAnim) ∧
    (t.preq ≠ s.preq → i ∈ [.tPwr, .mReqNone, .wReqUp]) ∧
    (t.pcount ≠ s.pcount → i = .tPwr) ∧
    (t.pled ≠ s.pled → i ∈ [.tPwr, .mLedOn, .wLedOn]) ∧
    (t.n ≠ s.n → i = .tInc) ∧
    (t.fdiv ≠ s.fdiv → i = .tInc) ∧
    (t.lidx ≠ s.lidx → i = .tLatch) ∧
    (t.lval ≠ s.lval → i = .tLatch) ∧
    (t.mreq ≠ s.mreq → i = .mChk) ∧
    (t.sel ≠ s.sel → i ∈ [.tSelclr, .tSelset, .mBlank]) ∧
    (t.data ≠ s.data → i ∈ [.tData, .mBlank]) ∧
    (t.btn ≠ s.btn → i ∈ [.evBtn false, .evBtn true]) ∧
    (t.wakeIe ≠ s.wakeIe → i ∈ [.mWieOn, .wWieOff]) ∧
    (t.wakeIf ≠ s.wakeIf → i ∈ [.evBtn false, .evBtn true, .irqWake, .wWieOff]) ∧
    (t.tickIf ≠ s.tickIf → i ∈ [.evTick, .irqTick]) ∧
    (t.smode ≠ s.smode → i ∈ [.mModeDeep, .wModeIdle]) ∧
    (t.se ≠ s.se → i ∈ [.mArm, .wSeOff]) ∧
    (t.sleeping ≠ s.sleeping → i ∈ [.mSleep, .irqTick, .irqWake]) ∧
    (t.intick ≠ s.intick → i ∈ [.irqTick, .tRet]) ∧
    (t.inwake ≠ s.inwake → i ∈ [.irqWake, .wRet]) ∧
    (t.mpc ≠ s.mpc → agentOf i = .main) ∧
    (t.tpc ≠ s.tpc → i = .irqTick ∨ agentOf i = .tick) ∧
    (t.wpc ≠ s.wpc → i = .irqWake ∨ agentOf i = .wake)

/-- R207: with no further event the block is quiescent after at most 41 steps. The 41 steps count waiting ones too: that
a quiescent block's step answers the same state, so that a run which is quiescent earlier still answers after 41, is the
model's reading (notes/assumptions/6.md, notes/assumptions/17.md). -/
def Obligations.QuiescentWithinFortyOneSteps : Prop :=
  ∀ s : State, SpecInv s → s.trace = [] → ∃ t : State, stepN 41 s = .next t ∧ Quiescent t

/-- R241: in a stuck state every sequence of ticks and button events leaves everything but BTN as it was. -/
def Obligations.StuckStateIgnoresEveryInput : Prop :=
  ∀ (s : State) (events : List Instr), Stuck s → (∀ e ∈ events, isInput e = true) →
    ∃ l : Bool, stepN events.length { s with trace := events.map encode } = .next { s with btn := l, trace := [] } ∧
      step { s with btn := l, trace := [] } = .next { s with btn := l, trace := [] }

/-- R241: a quiescent state that no event but EV_RESET can end is one in deep sleep with the wake line disabled, and
every such state is one. -/
def Obligations.StuckExactlyInDeepSleepWithWakeDisabled : Prop :=
  ∀ s : State, Quiescent s →
    ((∀ events : List Instr, (∀ e ∈ events, isInput e = true) → ¬ AwakenedBy events s) ↔
      s.smode = .deep ∧ s.wakeIe = false)

/-- R8: nothing the machine does changes its two OPEN parameters, the model's own field (notes/assumptions/21.md). -/
def Obligations.StepKeepsTheResetParameters : Prop :=
  ∀ s t : State, step s = .next t → t.resetParams = s.resetParams

/-- R264, for the scenario operations of R96: with `WAKE_IE_RESET` = 1 the first press after a reset is a wake edge; held
for any number of ticks it is not counted, and the first tick after its release ends PowerUp. With `WAKE_IE_RESET` = 0
the press moves the line and nothing else. The reset starts from any state whose parameters are so, the button line high
at reset. The 41 steps of each RUN count waiting ones (notes/assumptions/6.md, notes/assumptions/17.md). -/
def Obligations.FirstPressAfterResetIsAWakeEdge : Prop :=
  ∀ s : State, s.trace = [] → s.resetParams.btn = true →
    (s.resetParams.wakeIe = true → ∃ q p : State,
      q = { State.resetWith true true with se := true, sleeping := true } ∧ playReset s = .next q ∧
      p = { q with btn := false, wakeIe := false, pled := true, preq := .powerUp, mreq := .powerUp } ∧
      playPress q = .next p ∧
      ∀ k : Nat, ∃ h r u : State,
        playTicks k p = .next h ∧ h.preq = .powerUp ∧ h.pled = true ∧ h.pcount = 0#16 ∧ h.wakeIe = false ∧
        playRelease h = .next r ∧ r = { h with btn := true } ∧
        playTick r = .next u ∧ u.preq = .none ∧ u.pled = false ∧ u.pcount = 0#16 ∧ u.wakeIe = false) ∧
    (s.resetParams.wakeIe = false → ∃ q : State,
      q = { State.resetWith false true with se := true, sleeping := true } ∧ playReset s = .next q ∧
      playPress q = .next { q with btn := false })
end

