-- ==== Sys2Proof/Laws/Exec.lean ====
section
/-! SUPPORT. What an operation and a step can do, said once. -/

namespace Sys2Proof.Laws

open Host
open Sys2Proof.Machine
open Sys2Proof.Safety

/-- The state an operation leaves where it is enabled. -/
def effect (i : Instr) (s : State) : State :=
  match i with
  | .evReset => { State.resetWith s.resetParams.wakeIe s.resetParams.btn with trace := s.trace }
  | .evTick => { s with tickIf := tickPending s }
  | .evBtn level => { s with btn := level, wakeIf := if wakeEdge s.btn level s.wakeIe then true else s.wakeIf }
  | .irqTick => s.enter .tick
  | .irqWake => s.enter .wake
  | .mChk => { s with mreq := s.preq, mpc := mainBranch s.preq }
  | .mBlank => s.blankPort.mainTo 2#4
  | .mWieOn => { s with wakeIe := true, mpc := 3#4 }
  | .mModeDeep => { s with smode := .deep, mpc := 4#4 }
  | .mArm => { s with se := true, mpc := s.mpc + 1#4 }
  | .mReqNone => { s with preq := .none, mpc := 6#4 }
  | .mSleep => { s with sleeping := if s.se then true else s.sleeping, mpc := 0#4 }
  | .mLedOn => { s with pled := true, mpc := 8#4 }
  | .tGate => s.tickTo (if s.preq = .powerDown then 3#4 else 1#4)
  | .tAnim => (animStep s).tickTo 2#4
  | .tPwr => (powerStep (pressed s) s).tickTo 3#4
  | .tLatch => latch s
  | .tSelclr => { s with sel := 0b0000#4, tpc := 5#4 }
  | .tSelset => { s with sel := assertSelect s.sel s.lidx, tpc := 6#4 }
  | .tData => { s with data := s.lval, tpc := 7#4 }
  | .tInc => (advance Params.factor s).tickTo 8#4
  | .tRet => s.leave .tick
  | .wWieOff => { s with wakeIe := false, wakeIf := false, wpc := 1#3 }
  | .wModeIdle => { s with smode := .idle, wpc := 2#3 }
  | .wSeOff => { s with se := false, wpc := 3#3 }
  | .wLedOn => { s with pled := true, wpc := 4#3 }
  | .wReqUp => { s with preq := .powerUp, wpc := 5#3 }
  | .wAnimOff => { s with astate := .off, wpc := 6#3 }
  | .wRet => s.leave .wake

/-- `exec` in one line: the effect where the operation is enabled, else the refusal. -/
theorem exec_eq (i : Instr) (s : State) :
    exec i s = if enabled i s then .next (effect i s) else .refused .notEnabled := by
  cases i <;> rfl

/-- The inversion of `exec`. -/
theorem exec_next {i : Instr} {s t : State} (h : exec i s = .next t) : enabled i s = true ∧ t = effect i s := by
  rw [exec_eq] at h
  split at h
  · exact ⟨‹_›, by cases h; rfl⟩
  · cases h

/-- An enabled operation completes. -/
theorem exec_of_enabled {i : Instr} {s : State} (h : enabled i s = true) : exec i s = .next (effect i s) := by
  rw [exec_eq, if_pos h]

/-- An operation that is not enabled is refused. -/
theorem exec_of_not_enabled {i : Instr} {s : State} (h : ¬ enabled i s = true) : exec i s = .refused .notEnabled := by
  rw [exec_eq, if_neg h]

/-! ### Where an operation is enabled, in the words of Safety.lean -/

theorem enabled_irqWake (s : State) : enabled .irqWake s = true ↔ WakeTaken s := by
  cases h1 : s.wakeIf <;> cases h2 : s.wakeIe <;> cases h3 : s.inwake <;> cases h4 : s.intick <;>
    simp [enabled, wakeDispatchable, level, WakeTaken, h1, h2, h3, h4]

theorem enabled_irqTick (s : State) : enabled .irqTick s = true ↔ TickTaken s := by
  cases h1 : s.wakeIf <;> cases h2 : s.wakeIe <;> cases h3 : s.inwake <;> cases h4 : s.intick <;>
    simp [enabled, wakeDispatchable, tickDispatchable, State.tickIe, level, TickTaken, WakePending, h1, h2, h3, h4]

theorem mainRuns_at (s : State) (k : BitVec 4) : (mainRuns s && s.mpc == k) = true ↔ MainAt k s := by
  cases h1 : s.wakeIf <;> cases h2 : s.wakeIe <;> cases h3 : s.inwake <;> cases h4 : s.intick <;>
    cases h5 : s.sleeping <;> cases h6 : s.tickIf <;>
    simp [mainRuns, wakeDispatchable, tickDispatchable, State.tickIe, level, MainAt, WakePending, h1, h2, h3, h4, h5,
      h6]

theorem tickRuns_at (s : State) (k : BitVec 4) : (tickRuns s && s.tpc == k) = true ↔ TickAt k s := by
  cases h1 : s.wakeIf <;> cases h2 : s.wakeIe <;> cases h3 : s.inwake <;> cases h4 : s.intick <;>
    simp [tickRuns, wakeDispatchable, level, TickAt, WakePending, h1, h2, h3, h4]

theorem wakeRuns_at (s : State) (k : BitVec 3) : (wakeRuns s && s.wpc == k) = true ↔ WakeAt k s := by
  cases h3 : s.inwake <;> simp [wakeRuns, h3]

theorem mainRuns_at_either (s : State) (j k : BitVec 4) :
    (mainRuns s && (s.mpc == j || s.mpc == k)) = true ↔ MainAt j s ∨ MainAt k s := by
  rw [← mainRuns_at, ← mainRuns_at]
  cases mainRuns s <;> simp

/-! ### The step -/

/-- The trace's next code runs, and leaves the trace. -/
theorem step_cons {s : State} {b : Byte} {rest : List Byte} {i : Instr} (ht : s.trace = b :: rest)
    (hd : decode b = .ok i) : step s = exec i { s with trace := rest } := by
  simp [step, fetch, ht, hd]

/-- With an empty trace the arbiter's choice runs. -/
theorem step_nil {s : State} {b : Byte} {i : Instr} (ht : s.trace = []) (ha : arbiter s = .code b)
    (hd : decode b = .ok i) : step s = exec i s := by
  simp [step, fetch, ht, ha, hd]

/-- The inversion of `step`: it waits, or it runs one operation, in the state without the trace's head or in the
state itself. -/
theorem step_next {s t : State} (h : step s = .next t) :
    (s.trace = [] ∧ arbiter s = .quiescent ∧ t = s) ∨
    (∃ b rest i, s.trace = b :: rest ∧ decode b = .ok i ∧ exec i { s with trace := rest } = .next t) ∨
    (∃ b i, s.trace = [] ∧ arbiter s = .code b ∧ decode b = .ok i ∧ exec i s = .next t) := by
  unfold step fetch at h
  cases ht : s.trace with
  | cons b rest =>
    simp only [ht] at h
    cases hd : decode b with
    | ok i => exact .inr (.inl ⟨b, rest, i, rfl, hd, by simpa [hd] using h⟩)
    | error e => simp [hd] at h
  | nil =>
    simp only [ht] at h
    cases ha : arbiter s with
    | code b =>
      simp only [ha] at h
      cases hd : decode b with
      | ok i => exact .inr (.inr ⟨b, i, rfl, rfl, hd, by simpa [hd] using h⟩)
      | error e => simp [hd] at h
    | quiescent => exact .inl ⟨rfl, rfl, by simpa [ha] using h.symm⟩
    | emptyPosition => simp [ha] at h

/-! ### Runs -/

@[simp] theorem stepN_zero (s : State) : stepN 0 s = .next s := rfl

theorem stepN_succ_of_step {s t : State} (k : Nat) (h : step s = .next t) : stepN (k + 1) s = stepN k t := by
  simp [stepN, h]

/-- A run in two parts. -/
theorem stepN_add (j k : Nat) (s : State) : stepN (j + k) s = andThen (stepN j s) (stepN k) := by
  induction j generalizing s with
  | zero => simp [andThen]
  | succ j ih =>
    rw [Nat.succ_add]
    simp only [stepN]
    cases step s with
    | next t => exact ih t
    | fault r => cases r
    | refused r => rfl

@[simp] theorem andThen_next (s : State) (f : State → Outcome State Fault Refusal) : andThen (.next s) f = f s := rfl

/-- `stepN` is the host's own run. -/
theorem stepN_eq_core_run (k : Nat) (s : State) : stepN k s = Host.Core.run Sys2Proof.core k s := by
  induction k generalizing s with
  | zero => rfl
  | succ k ih =>
    cases hs : step s with
    | next t =>
      have hc : Sys2Proof.core.step s = .next t := hs
      simp only [stepN, Host.Core.run, hs, hc]
      exact ih t
    | fault r => cases r
    | refused r =>
      have hc : Sys2Proof.core.step s = .refused r := hs
      simp only [stepN, Host.Core.run, hs, hc]
      rfl

end Sys2Proof.Laws
end

