-- ==== Sys2Proof/Laws/State.lean ====
section
/-! SUPPORT. One lemma per field of State for each named update of Machine/Ops.lean. -/

namespace Sys2Proof.Laws

open Sys2Proof.Machine

/-! ### resetWith -/

@[simp] theorem resetWith_resetParams (w b : Bool) : (State.resetWith w b).resetParams = { wakeIe := w, btn := b } := rfl
@[simp] theorem resetWith_wakeIe (w b : Bool) : (State.resetWith w b).wakeIe = w := rfl
@[simp] theorem resetWith_btn (w b : Bool) : (State.resetWith w b).btn = b := rfl

/-! ### mainTo -/

@[simp] theorem mainTo_ledbm (s : State) (k : BitVec 4) : (s.mainTo k).ledbm = s.ledbm := rfl
@[simp] theorem mainTo_astate (s : State) (k : BitVec 4) : (s.mainTo k).astate = s.astate := rfl
@[simp] theorem mainTo_atimer (s : State) (k : BitVec 4) : (s.mainTo k).atimer = s.atimer := rfl
@[simp] theorem mainTo_preq (s : State) (k : BitVec 4) : (s.mainTo k).preq = s.preq := rfl
@[simp] theorem mainTo_pcount (s : State) (k : BitVec 4) : (s.mainTo k).pcount = s.pcount := rfl
@[simp] theorem mainTo_pled (s : State) (k : BitVec 4) : (s.mainTo k).pled = s.pled := rfl
@[simp] theorem mainTo_n (s : State) (k : BitVec 4) : (s.mainTo k).n = s.n := rfl
@[simp] theorem mainTo_fdiv (s : State) (k : BitVec 4) : (s.mainTo k).fdiv = s.fdiv := rfl
@[simp] theorem mainTo_lidx (s : State) (k : BitVec 4) : (s.mainTo k).lidx = s.lidx := rfl
@[simp] theorem mainTo_lval (s : State) (k : BitVec 4) : (s.mainTo k).lval = s.lval := rfl
@[simp] theorem mainTo_mreq (s : State) (k : BitVec 4) : (s.mainTo k).mreq = s.mreq := rfl
@[simp] theorem mainTo_sel (s : State) (k : BitVec 4) : (s.mainTo k).sel = s.sel := rfl
@[simp] theorem mainTo_data (s : State) (k : BitVec 4) : (s.mainTo k).data = s.data := rfl
@[simp] theorem mainTo_btn (s : State) (k : BitVec 4) : (s.mainTo k).btn = s.btn := rfl
@[simp] theorem mainTo_wakeIe (s : State) (k : BitVec 4) : (s.mainTo k).wakeIe = s.wakeIe := rfl
@[simp] theorem mainTo_wakeIf (s : State) (k : BitVec 4) : (s.mainTo k).wakeIf = s.wakeIf := rfl
@[simp] theorem mainTo_tickIf (s : State) (k : BitVec 4) : (s.mainTo k).tickIf = s.tickIf := rfl
@[simp] theorem mainTo_smode (s : State) (k : BitVec 4) : (s.mainTo k).smode = s.smode := rfl
@[simp] theorem mainTo_se (s : State) (k : BitVec 4) : (s.mainTo k).se = s.se := rfl
@[simp] theorem mainTo_sleeping (s : State) (k : BitVec 4) : (s.mainTo k).sleeping = s.sleeping := rfl
@[simp] theorem mainTo_intick (s : State) (k : BitVec 4) : (s.mainTo k).intick = s.intick := rfl
@[simp] theorem mainTo_inwake (s : State) (k : BitVec 4) : (s.mainTo k).inwake = s.inwake := rfl
@[simp] theorem mainTo_mpc (s : State) (k : BitVec 4) : (s.mainTo k).mpc = k := rfl
@[simp] theorem mainTo_tpc (s : State) (k : BitVec 4) : (s.mainTo k).tpc = s.tpc := rfl
@[simp] theorem mainTo_wpc (s : State) (k : BitVec 4) : (s.mainTo k).wpc = s.wpc := rfl
@[simp] theorem mainTo_resetParams (s : State) (k : BitVec 4) : (s.mainTo k).resetParams = s.resetParams := rfl
@[simp] theorem mainTo_trace (s : State) (k : BitVec 4) : (s.mainTo k).trace = s.trace := rfl

/-! ### tickTo -/

@[simp] theorem tickTo_ledbm (s : State) (k : BitVec 4) : (s.tickTo k).ledbm = s.ledbm := rfl
@[simp] theorem tickTo_astate (s : State) (k : BitVec 4) : (s.tickTo k).astate = s.astate := rfl
@[simp] theorem tickTo_atimer (s : State) (k : BitVec 4) : (s.tickTo k).atimer = s.atimer := rfl
@[simp] theorem tickTo_preq (s : State) (k : BitVec 4) : (s.tickTo k).preq = s.preq := rfl
@[simp] theorem tickTo_pcount (s : State) (k : BitVec 4) : (s.tickTo k).pcount = s.pcount := rfl
@[simp] theorem tickTo_pled (s : State) (k : BitVec 4) : (s.tickTo k).pled = s.pled := rfl
@[simp] theorem tickTo_n (s : State) (k : BitVec 4) : (s.tickTo k).n = s.n := rfl
@[simp] theorem tickTo_fdiv (s : State) (k : BitVec 4) : (s.tickTo k).fdiv = s.fdiv := rfl
@[simp] theorem tickTo_lidx (s : State) (k : BitVec 4) : (s.tickTo k).lidx = s.lidx := rfl
@[simp] theorem tickTo_lval (s : State) (k : BitVec 4) : (s.tickTo k).lval = s.lval := rfl
@[simp] theorem tickTo_mreq (s : State) (k : BitVec 4) : (s.tickTo k).mreq = s.mreq := rfl
@[simp] theorem tickTo_sel (s : State) (k : BitVec 4) : (s.tickTo k).sel = s.sel := rfl
@[simp] theorem tickTo_data (s : State) (k : BitVec 4) : (s.tickTo k).data = s.data := rfl
@[simp] theorem tickTo_btn (s : State) (k : BitVec 4) : (s.tickTo k).btn = s.btn := rfl
@[simp] theorem tickTo_wakeIe (s : State) (k : BitVec 4) : (s.tickTo k).wakeIe = s.wakeIe := rfl
@[simp] theorem tickTo_wakeIf (s : State) (k : BitVec 4) : (s.tickTo k).wakeIf = s.wakeIf := rfl
@[simp] theorem tickTo_tickIf (s : State) (k : BitVec 4) : (s.tickTo k).tickIf = s.tickIf := rfl
@[simp] theorem tickTo_smode (s : State) (k : BitVec 4) : (s.tickTo k).smode = s.smode := rfl
@[simp] theorem tickTo_se (s : State) (k : BitVec 4) : (s.tickTo k).se = s.se := rfl
@[simp] theorem tickTo_sleeping (s : State) (k : BitVec 4) : (s.tickTo k).sleeping = s.sleeping := rfl
@[simp] theorem tickTo_intick (s : State) (k : BitVec 4) : (s.tickTo k).intick = s.intick := rfl
@[simp] theorem tickTo_inwake (s : State) (k : BitVec 4) : (s.tickTo k).inwake = s.inwake := rfl
@[simp] theorem tickTo_mpc (s : State) (k : BitVec 4) : (s.tickTo k).mpc = s.mpc := rfl
@[simp] theorem tickTo_tpc (s : State) (k : BitVec 4) : (s.tickTo k).tpc = k := rfl
@[simp] theorem tickTo_wpc (s : State) (k : BitVec 4) : (s.tickTo k).wpc = s.wpc := rfl
@[simp] theorem tickTo_resetParams (s : State) (k : BitVec 4) : (s.tickTo k).resetParams = s.resetParams := rfl
@[simp] theorem tickTo_trace (s : State) (k : BitVec 4) : (s.tickTo k).trace = s.trace := rfl

/-! ### wakeTo -/

@[simp] theorem wakeTo_ledbm (s : State) (k : BitVec 3) : (s.wakeTo k).ledbm = s.ledbm := rfl
@[simp] theorem wakeTo_astate (s : State) (k : BitVec 3) : (s.wakeTo k).astate = s.astate := rfl
@[simp] theorem wakeTo_atimer (s : State) (k : BitVec 3) : (s.wakeTo k).atimer = s.atimer := rfl
@[simp] theorem wakeTo_preq (s : State) (k : BitVec 3) : (s.wakeTo k).preq = s.preq := rfl
@[simp] theorem wakeTo_pcount (s : State) (k : BitVec 3) : (s.wakeTo k).pcount = s.pcount := rfl
@[simp] theorem wakeTo_pled (s : State) (k : BitVec 3) : (s.wakeTo k).pled = s.pled := rfl
@[simp] theorem wakeTo_n (s : State) (k : BitVec 3) : (s.wakeTo k).n = s.n := rfl
@[simp] theorem wakeTo_fdiv (s : State) (k : BitVec 3) : (s.wakeTo k).fdiv = s.fdiv := rfl
@[simp] theorem wakeTo_lidx (s : State) (k : BitVec 3) : (s.wakeTo k).lidx = s.lidx := rfl
@[simp] theorem wakeTo_lval (s : State) (k : BitVec 3) : (s.wakeTo k).lval = s.lval := rfl
@[simp] theorem wakeTo_mreq (s : State) (k : BitVec 3) : (s.wakeTo k).mreq = s.mreq := rfl
@[simp] theorem wakeTo_sel (s : State) (k : BitVec 3) : (s.wakeTo k).sel = s.sel := rfl
@[simp] theorem wakeTo_data (s : State) (k : BitVec 3) : (s.wakeTo k).data = s.data := rfl
@[simp] theorem wakeTo_btn (s : State) (k : BitVec 3) : (s.wakeTo k).btn = s.btn := rfl
@[simp] theorem wakeTo_wakeIe (s : State) (k : BitVec 3) : (s.wakeTo k).wakeIe = s.wakeIe := rfl
@[simp] theorem wakeTo_wakeIf (s : State) (k : BitVec 3) : (s.wakeTo k).wakeIf = s.wakeIf := rfl
@[simp] theorem wakeTo_tickIf (s : State) (k : BitVec 3) : (s.wakeTo k).tickIf = s.tickIf := rfl
@[simp] theorem wakeTo_smode (s : State) (k : BitVec 3) : (s.wakeTo k).smode = s.smode := rfl
@[simp] theorem wakeTo_se (s : State) (k : BitVec 3) : (s.wakeTo k).se = s.se := rfl
@[simp] theorem wakeTo_sleeping (s : State) (k : BitVec 3) : (s.wakeTo k).sleeping = s.sleeping := rfl
@[simp] theorem wakeTo_intick (s : State) (k : BitVec 3) : (s.wakeTo k).intick = s.intick := rfl
@[simp] theorem wakeTo_inwake (s : State) (k : BitVec 3) : (s.wakeTo k).inwake = s.inwake := rfl
@[simp] theorem wakeTo_mpc (s : State) (k : BitVec 3) : (s.wakeTo k).mpc = s.mpc := rfl
@[simp] theorem wakeTo_tpc (s : State) (k : BitVec 3) : (s.wakeTo k).tpc = s.tpc := rfl
@[simp] theorem wakeTo_wpc (s : State) (k : BitVec 3) : (s.wakeTo k).wpc = k := rfl
@[simp] theorem wakeTo_resetParams (s : State) (k : BitVec 3) : (s.wakeTo k).resetParams = s.resetParams := rfl
@[simp] theorem wakeTo_trace (s : State) (k : BitVec 3) : (s.wakeTo k).trace = s.trace := rfl

/-! ### enter_tick -/

@[simp] theorem enter_tick_ledbm (s : State) : (s.enter .tick).ledbm = s.ledbm := rfl
@[simp] theorem enter_tick_astate (s : State) : (s.enter .tick).astate = s.astate := rfl
@[simp] theorem enter_tick_atimer (s : State) : (s.enter .tick).atimer = s.atimer := rfl
@[simp] theorem enter_tick_preq (s : State) : (s.enter .tick).preq = s.preq := rfl
@[simp] theorem enter_tick_pcount (s : State) : (s.enter .tick).pcount = s.pcount := rfl
@[simp] theorem enter_tick_pled (s : State) : (s.enter .tick).pled = s.pled := rfl
@[simp] theorem enter_tick_n (s : State) : (s.enter .tick).n = s.n := rfl
@[simp] theorem enter_tick_fdiv (s : State) : (s.enter .tick).fdiv = s.fdiv := rfl
@[simp] theorem enter_tick_lidx (s : State) : (s.enter .tick).lidx = s.lidx := rfl
@[simp] theorem enter_tick_lval (s : State) : (s.enter .tick).lval = s.lval := rfl
@[simp] theorem enter_tick_mreq (s : State) : (s.enter .tick).mreq = s.mreq := rfl
@[simp] theorem enter_tick_sel (s : State) : (s.enter .tick).sel = s.sel := rfl
@[simp] theorem enter_tick_data (s : State) : (s.enter .tick).data = s.data := rfl
@[simp] theorem enter_tick_btn (s : State) : (s.enter .tick).btn = s.btn := rfl
@[simp] theorem enter_tick_wakeIe (s : State) : (s.enter .tick).wakeIe = s.wakeIe := rfl
@[simp] theorem enter_tick_wakeIf (s : State) : (s.enter .tick).wakeIf = s.wakeIf := rfl
@[simp] theorem enter_tick_tickIf (s : State) : (s.enter .tick).tickIf = false := rfl
@[simp] theorem enter_tick_smode (s : State) : (s.enter .tick).smode = s.smode := rfl
@[simp] theorem enter_tick_se (s : State) : (s.enter .tick).se = s.se := rfl
@[simp] theorem enter_tick_sleeping (s : State) : (s.enter .tick).sleeping = false := rfl
@[simp] theorem enter_tick_intick (s : State) : (s.enter .tick).intick = true := rfl
@[simp] theorem enter_tick_inwake (s : State) : (s.enter .tick).inwake = s.inwake := rfl
@[simp] theorem enter_tick_mpc (s : State) : (s.enter .tick).mpc = s.mpc := rfl
@[simp] theorem enter_tick_tpc (s : State) : (s.enter .tick).tpc = 0#4 := rfl
@[simp] theorem enter_tick_wpc (s : State) : (s.enter .tick).wpc = s.wpc := rfl
@[simp] theorem enter_tick_resetParams (s : State) : (s.enter .tick).resetParams = s.resetParams := rfl
@[simp] theorem enter_tick_trace (s : State) : (s.enter .tick).trace = s.trace := rfl

/-! ### enter_wake -/

@[simp] theorem enter_wake_ledbm (s : State) : (s.enter .wake).ledbm = s.ledbm := rfl
@[simp] theorem enter_wake_astate (s : State) : (s.enter .wake).astate = s.astate := rfl
@[simp] theorem enter_wake_atimer (s : State) : (s.enter .wake).atimer = s.atimer := rfl
@[simp] theorem enter_wake_preq (s : State) : (s.enter .wake).preq = s.preq := rfl
@[simp] theorem enter_wake_pcount (s : State) : (s.enter .wake).pcount = s.pcount := rfl
@[simp] theorem enter_wake_pled (s : State) : (s.enter .wake).pled = s.pled := rfl
@[simp] theorem enter_wake_n (s : State) : (s.enter .wake).n = s.n := rfl
@[simp] theorem enter_wake_fdiv (s : State) : (s.enter .wake).fdiv = s.fdiv := rfl
@[simp] theorem enter_wake_lidx (s : State) : (s.enter .wake).lidx = s.lidx := rfl
@[simp] theorem enter_wake_lval (s : State) : (s.enter .wake).lval = s.lval := rfl
@[simp] theorem enter_wake_mreq (s : State) : (s.enter .wake).mreq = s.mreq := rfl
@[simp] theorem enter_wake_sel (s : State) : (s.enter .wake).sel = s.sel := rfl
@[simp] theorem enter_wake_data (s : State) : (s.enter .wake).data = s.data := rfl
@[simp] theorem enter_wake_btn (s : State) : (s.enter .wake).btn = s.btn := rfl
@[simp] theorem enter_wake_wakeIe (s : State) : (s.enter .wake).wakeIe = s.wakeIe := rfl
@[simp] theorem enter_wake_wakeIf (s : State) : (s.enter .wake).wakeIf = false := rfl
@[simp] theorem enter_wake_tickIf (s : State) : (s.enter .wake).tickIf = s.tickIf := rfl
@[simp] theorem enter_wake_smode (s : State) : (s.enter .wake).smode = s.smode := rfl
@[simp] theorem enter_wake_se (s : State) : (s.enter .wake).se = s.se := rfl
@[simp] theorem enter_wake_sleeping (s : State) : (s.enter .wake).sleeping = false := rfl
@[simp] theorem enter_wake_intick (s : State) : (s.enter .wake).intick = s.intick := rfl
@[simp] theorem enter_wake_inwake (s : State) : (s.enter .wake).inwake = true := rfl
@[simp] theorem enter_wake_mpc (s : State) : (s.enter .wake).mpc = s.mpc := rfl
@[simp] theorem enter_wake_tpc (s : State) : (s.enter .wake).tpc = s.tpc := rfl
@[simp] theorem enter_wake_wpc (s : State) : (s.enter .wake).wpc = 0#3 := rfl
@[simp] theorem enter_wake_resetParams (s : State) : (s.enter .wake).resetParams = s.resetParams := rfl
@[simp] theorem enter_wake_trace (s : State) : (s.enter .wake).trace = s.trace := rfl

/-! ### leave_tick -/

@[simp] theorem leave_tick_ledbm (s : State) : (s.leave .tick).ledbm = s.ledbm := rfl
@[simp] theorem leave_tick_astate (s : State) : (s.leave .tick).astate = s.astate := rfl
@[simp] theorem leave_tick_atimer (s : State) : (s.leave .tick).atimer = s.atimer := rfl
@[simp] theorem leave_tick_preq (s : State) : (s.leave .tick).preq = s.preq := rfl
@[simp] theorem leave_tick_pcount (s : State) : (s.leave .tick).pcount = s.pcount := rfl
@[simp] theorem leave_tick_pled (s : State) : (s.leave .tick).pled = s.pled := rfl
@[simp] theorem leave_tick_n (s : State) : (s.leave .tick).n = s.n := rfl
@[simp] theorem leave_tick_fdiv (s : State) : (s.leave .tick).fdiv = s.fdiv := rfl
@[simp] theorem leave_tick_lidx (s : State) : (s.leave .tick).lidx = s.lidx := rfl
@[simp] theorem leave_tick_lval (s : State) : (s.leave .tick).lval = s.lval := rfl
@[simp] theorem leave_tick_mreq (s : State) : (s.leave .tick).mreq = s.mreq := rfl
@[simp] theorem leave_tick_sel (s : State) : (s.leave .tick).sel = s.sel := rfl
@[simp] theorem leave_tick_data (s : State) : (s.leave .tick).data = s.data := rfl
@[simp] theorem leave_tick_btn (s : State) : (s.leave .tick).btn = s.btn := rfl
@[simp] theorem leave_tick_wakeIe (s : State) : (s.leave .tick).wakeIe = s.wakeIe := rfl
@[simp] theorem leave_tick_wakeIf (s : State) : (s.leave .tick).wakeIf = s.wakeIf := rfl
@[simp] theorem leave_tick_tickIf (s : State) : (s.leave .tick).tickIf = s.tickIf := rfl
@[simp] theorem leave_tick_smode (s : State) : (s.leave .tick).smode = s.smode := rfl
@[simp] theorem leave_tick_se (s : State) : (s.leave .tick).se = s.se := rfl
@[simp] theorem leave_tick_sleeping (s : State) : (s.leave .tick).sleeping = s.sleeping := rfl
@[simp] theorem leave_tick_intick (s : State) : (s.leave .tick).intick = false := rfl
@[simp] theorem leave_tick_inwake (s : State) : (s.leave .tick).inwake = s.inwake := rfl
@[simp] theorem leave_tick_mpc (s : State) : (s.leave .tick).mpc = s.mpc := rfl
@[simp] theorem leave_tick_tpc (s : State) : (s.leave .tick).tpc = 0#4 := rfl
@[simp] theorem leave_tick_wpc (s : State) : (s.leave .tick).wpc = s.wpc := rfl
@[simp] theorem leave_tick_resetParams (s : State) : (s.leave .tick).resetParams = s.resetParams := rfl
@[simp] theorem leave_tick_trace (s : State) : (s.leave .tick).trace = s.trace := rfl

/-! ### leave_wake -/

@[simp] theorem leave_wake_ledbm (s : State) : (s.leave .wake).ledbm = s.ledbm := rfl
@[simp] theorem leave_wake_astate (s : State) : (s.leave .wake).astate = s.astate := rfl
@[simp] theorem leave_wake_atimer (s : State) : (s.leave .wake).atimer = s.atimer := rfl
@[simp] theorem leave_wake_preq (s : State) : (s.leave .wake).preq = s.preq := rfl
@[simp] theorem leave_wake_pcount (s : State) : (s.leave .wake).pcount = s.pcount := rfl
@[simp] theorem leave_wake_pled (s : State) : (s.leave .wake).pled = s.pled := rfl
@[simp] theorem leave_wake_n (s : State) : (s.leave .wake).n = s.n := rfl
@[simp] theorem leave_wake_fdiv (s : State) : (s.leave .wake).fdiv = s.fdiv := rfl
@[simp] theorem leave_wake_lidx (s : State) : (s.leave .wake).lidx = s.lidx := rfl
@[simp] theorem leave_wake_lval (s : State) : (s.leave .wake).lval = s.lval := rfl
@[simp] theorem leave_wake_mreq (s : State) : (s.leave .wake).mreq = s.mreq := rfl
@[simp] theorem leave_wake_sel (s : State) : (s.leave .wake).sel = s.sel := rfl
@[simp] theorem leave_wake_data (s : State) : (s.leave .wake).data = s.data := rfl
@[simp] theorem leave_wake_btn (s : State) : (s.leave .wake).btn = s.btn := rfl
@[simp] theorem leave_wake_wakeIe (s : State) : (s.leave .wake).wakeIe = s.wakeIe := rfl
@[simp] theorem leave_wake_wakeIf (s : State) : (s.leave .wake).wakeIf = s.wakeIf := rfl
@[simp] theorem leave_wake_tickIf (s : State) : (s.leave .wake).tickIf = s.tickIf := rfl
@[simp] theorem leave_wake_smode (s : State) : (s.leave .wake).smode = s.smode := rfl
@[simp] theorem leave_wake_se (s : State) : (s.leave .wake).se = s.se := rfl
@[simp] theorem leave_wake_sleeping (s : State) : (s.leave .wake).sleeping = s.sleeping := rfl
@[simp] theorem leave_wake_intick (s : State) : (s.leave .wake).intick = s.intick := rfl
@[simp] theorem leave_wake_inwake (s : State) : (s.leave .wake).inwake = false := rfl
@[simp] theorem leave_wake_mpc (s : State) : (s.leave .wake).mpc = s.mpc := rfl
@[simp] theorem leave_wake_tpc (s : State) : (s.leave .wake).tpc = s.tpc := rfl
@[simp] theorem leave_wake_wpc (s : State) : (s.leave .wake).wpc = 0#3 := rfl
@[simp] theorem leave_wake_resetParams (s : State) : (s.leave .wake).resetParams = s.resetParams := rfl
@[simp] theorem leave_wake_trace (s : State) : (s.leave .wake).trace = s.trace := rfl

/-! ### blankPort -/

@[simp] theorem blankPort_ledbm (s : State) : (s.blankPort).ledbm = s.ledbm := rfl
@[simp] theorem blankPort_astate (s : State) : (s.blankPort).astate = s.astate := rfl
@[simp] theorem blankPort_atimer (s : State) : (s.blankPort).atimer = s.atimer := rfl
@[simp] theorem blankPort_preq (s : State) : (s.blankPort).preq = s.preq := rfl
@[simp] theorem blankPort_pcount (s : State) : (s.blankPort).pcount = s.pcount := rfl
@[simp] theorem blankPort_pled (s : State) : (s.blankPort).pled = s.pled := rfl
@[simp] theorem blankPort_n (s : State) : (s.blankPort).n = s.n := rfl
@[simp] theorem blankPort_fdiv (s : State) : (s.blankPort).fdiv = s.fdiv := rfl
@[simp] theorem blankPort_lidx (s : State) : (s.blankPort).lidx = s.lidx := rfl
@[simp] theorem blankPort_lval (s : State) : (s.blankPort).lval = s.lval := rfl
@[simp] theorem blankPort_mreq (s : State) : (s.blankPort).mreq = s.mreq := rfl
@[simp] theorem blankPort_sel (s : State) : (s.blankPort).sel = 0b0000#4 := rfl
@[simp] theorem blankPort_data (s : State) : (s.blankPort).data = 0b00000#5 := rfl
@[simp] theorem blankPort_btn (s : State) : (s.blankPort).btn = s.btn := rfl
@[simp] theorem blankPort_wakeIe (s : State) : (s.blankPort).wakeIe = s.wakeIe := rfl
@[simp] theorem blankPort_wakeIf (s : State) : (s.blankPort).wakeIf = s.wakeIf := rfl
@[simp] theorem blankPort_tickIf (s : State) : (s.blankPort).tickIf = s.tickIf := rfl
@[simp] theorem blankPort_smode (s : State) : (s.blankPort).smode = s.smode := rfl
@[simp] theorem blankPort_se (s : State) : (s.blankPort).se = s.se := rfl
@[simp] theorem blankPort_sleeping (s : State) : (s.blankPort).sleeping = s.sleeping := rfl
@[simp] theorem blankPort_intick (s : State) : (s.blankPort).intick = s.intick := rfl
@[simp] theorem blankPort_inwake (s : State) : (s.blankPort).inwake = s.inwake := rfl
@[simp] theorem blankPort_mpc (s : State) : (s.blankPort).mpc = s.mpc := rfl
@[simp] theorem blankPort_tpc (s : State) : (s.blankPort).tpc = s.tpc := rfl
@[simp] theorem blankPort_wpc (s : State) : (s.blankPort).wpc = s.wpc := rfl
@[simp] theorem blankPort_resetParams (s : State) : (s.blankPort).resetParams = s.resetParams := rfl
@[simp] theorem blankPort_trace (s : State) : (s.blankPort).trace = s.trace := rfl

end Sys2Proof.Laws
end

