-- ==== Sys2Proof/Laws/Ops.lean ====
section
/-! SUPPORT. What each shared operation does, said once, for proofs to cite. -/

namespace Sys2Proof.Laws

open Host
open Sys2Proof.Machine

/-- `whenEnabled` answers a next state only by the effect, and only where the operation is enabled. -/
theorem whenEnabled_next {i : Instr} {f : State → State} {s t : State} (h : whenEnabled i f s = .next t) :
    enabled i s = true ∧ t = f s := by
  unfold whenEnabled at h
  split at h
  · exact ⟨‹_›, by cases h; rfl⟩
  · cases h

/-! ### Values -/

@[simp] theorem decSat_zero : decSat 0#16 = 0#16 := rfl

theorem decSat_of_ne {v : Word16} (h : v ≠ 0#16) : decSat v = v - 1#16 := if_neg h

/-- `dec_sat` is natural-number subtraction. -/
theorem decSat_toNat (v : Word16) : (decSat v).toNat = v.toNat - 1 := by
  unfold decSat
  split
  · simp_all
  · bv_omega

theorem nextN_toNat (n : Word16) : (nextN n).toNat = (n.toNat + 1) % 1000 := by
  simp only [nextN, Params.nMod, BitVec.toNat_ofNat]
  omega

theorem channelOf_toNat (n : Word16) : (channelOf n).toNat = n.toNat % 4 := by
  simp only [channelOf, Params.nCh, BitVec.toNat_ofNat]
  omega

theorem nextFdiv_toNat (factor : Nat) (v : Word16) (h0 : 1 ≤ factor) (h1 : factor ≤ 65536) :
    (nextFdiv factor v).toNat = (v.toNat + 1) % factor := by
  have := Nat.mod_lt (v.toNat + 1) h0
  simp only [nextFdiv, BitVec.toNat_ofNat]
  exact Nat.mod_eq_of_lt (by omega)

theorem blink_lit {timer : Word16} (lit dark : Word16) (h : timer.toNat % 800 > 400) : blink timer lit dark = lit :=
  if_pos h

theorem blink_dark {timer : Word16} (lit dark : Word16) (h : ¬ timer.toNat % 800 > 400) :
    blink timer lit dark = dark := if_neg h

theorem blink_mem (timer lit dark : Word16) : blink timer lit dark = lit ∨ blink timer lit dark = dark := by
  unfold blink
  split <;> simp

@[simp] theorem assertSelect_of_clear (channel : BitVec 2) : assertSelect 0#4 channel = 1#4 <<< channel.toNat := by
  simp [assertSelect]

/-- A bit of a nibble is the bitmap's bit. -/
theorem nibble_getLsbD (bitmap : Word16) (k : BitVec 2) (d : Nat) (h : d < 4) :
    (nibble bitmap k).getLsbD d = bitmap.getLsbD (4 * k.toNat + d) := by
  have h4 : d = 0 ∨ d = 1 ∨ d = 2 ∨ d = 3 := by omega
  rcases h4 with rfl | rfl | rfl | rfl <;> simp [nibble]

/-! ### The state machines -/

/-- The arm of T_ANIM, then the decrement. -/
theorem animStep_eq (s : State) : animStep s = { animArm s with atimer := decSat (animArm s).atimer } := rfl

/-- T_ANIM writes ASTATE, ATIMER and LEDBM and nothing else. -/
theorem animStep_frame (s : State) :
    animStep s = { s with
      astate := (animStep s).astate, atimer := (animStep s).atimer, ledbm := (animStep s).ledbm } := by
  unfold animStep animArm
  cases s.astate <;> dsimp only <;> (try split) <;> rfl

/-- T_PWR writes PREQ, PCOUNT, PLED and LEDBM and nothing else. -/
theorem powerStep_frame (p : Bool) (s : State) :
    powerStep p s = { s with
      preq := (powerStep p s).preq, pcount := (powerStep p s).pcount, pled := (powerStep p s).pled,
      ledbm := (powerStep p s).ledbm } := by
  unfold powerStep armPressed armReleased
  cases s.preq <;> cases p <;> simp only [Bool.false_eq_true, if_true, if_false] <;> (try split) <;> rfl

/-- The counting arm of a press. -/
theorem armPressed_of_pressed {s : State} (h : 2 ≤ s.pcount.toNat) :
    armPressed true s = { s with pcount := s.pcount - 1#16 } := by
  have hne : s.pcount ≠ 0#16 := by intro h'; simp [h'] at h
  have h1 : s.pcount - 1#16 ≠ 0#16 := by bv_omega
  simp [armPressed, decSat_of_ne hne, h1]

/-- The last sample of a press. -/
theorem armPressed_of_last {s : State} (h : s.pcount.toNat ≤ 1) :
    armPressed true s = { s with pcount := 0#16, pled := true, preq := .buttonPressedLong } := by
  have h0 : decSat s.pcount = 0#16 := by
    apply BitVec.eq_of_toNat_eq
    rw [decSat_toNat]
    simp; omega
  simp [armPressed, h0]

/-- The counting arm of a release. -/
theorem armReleased_of_released {s : State} (h : 2 ≤ s.pcount.toNat) :
    armReleased false s = { s with pcount := s.pcount - 1#16 } := by
  have hne : s.pcount ≠ 0#16 := by intro h'; simp [h'] at h
  have h1 : s.pcount - 1#16 ≠ 0#16 := by bv_omega
  simp [armReleased, decSat_of_ne hne, h1]

/-- The last sample of a release. -/
theorem armReleased_of_last {s : State} (h : s.pcount.toNat ≤ 1) :
    armReleased false s =
      { s with pcount := 0#16, pled := false, ledbm := Params.bmpDark, preq := .powerDown } := by
  have h0 : decSat s.pcount = 0#16 := by
    apply BitVec.eq_of_toNat_eq
    rw [decSat_toNat]
    simp; omega
  simp [armReleased, h0]

/-- T_LATCH where the multiplex update happens. -/
theorem latch_of_update {s : State} (h : s.fdiv = 0#16) :
    latch s = { s with lidx := channelOf s.n, lval := dataValue s.ledbm (channelOf s.n) s.pled, tpc := 4#4 } :=
  if_pos h

/-- T_LATCH where it is skipped. -/
theorem latch_of_skip {s : State} (h : s.fdiv ≠ 0#16) : latch s = s.tickTo 7#4 := if_neg h

/-! ### The fetch -/

/-- A table lookup answers only codes of its table. -/
theorem lookup_code {table : List Byte} {k : Nat} {b : Byte} (h : lookup table k = .code b) : table[k]? = some b := by
  unfold lookup at h
  split at h
  · cases h; assumption
  · cases h

/-- The fetch answers a code of the trace, or the arbiter's. -/
theorem fetch_word {s s' : State} {b : Byte} (h : fetch s = .word b s') :
    (∃ rest, s.trace = b :: rest ∧ s' = { s with trace := rest }) ∨
    (s.trace = [] ∧ arbiter s = .code b ∧ s' = s) := by
  unfold fetch at h
  cases ht : s.trace with
  | cons c rest =>
    simp only [ht] at h
    cases h
    exact .inl ⟨rest, rfl, rfl⟩
  | nil =>
    simp only [ht] at h
    cases ha : arbiter s <;> simp only [ha] at h <;> cases h
    exact .inr ⟨rfl, rfl, rfl⟩

end Sys2Proof.Laws
end

