-- ==== Sys2Proof/Laws/PerInstr.lean ====
section
/-! SUPPORT. The statements about every operation, one lemma per constructor. -/

namespace Sys2Proof.Laws.CodeClass

/-- spec/30_encoding.md R80: bits 5:4 of an operation's code are the class of its agent, and the two bits above the
code are 0. -/
def Statement (i : Instr) : Prop :=
  i.wellFormed = true ∧ (encodeCode i).extractLsb' 4 2 = agentClass (agentOf i) ∧
    encode i = (encodeCode i).setWidth 8

theorem evReset : Statement .evReset := by unfold Statement; decide
theorem evTick : Statement .evTick := by unfold Statement; decide
theorem evBtn (level : Bool) : Statement (.evBtn level) := by cases level <;> (unfold Statement; decide)
theorem irqTick : Statement .irqTick := by unfold Statement; decide
theorem irqWake : Statement .irqWake := by unfold Statement; decide
theorem mChk : Statement .mChk := by unfold Statement; decide
theorem mBlank : Statement .mBlank := by unfold Statement; decide
theorem mWieOn : Statement .mWieOn := by unfold Statement; decide
theorem mModeDeep : Statement .mModeDeep := by unfold Statement; decide
theorem mArm : Statement .mArm := by unfold Statement; decide
theorem mReqNone : Statement .mReqNone := by unfold Statement; decide
theorem mSleep : Statement .mSleep := by unfold Statement; decide
theorem mLedOn : Statement .mLedOn := by unfold Statement; decide
theorem tGate : Statement .tGate := by unfold Statement; decide
theorem tAnim : Statement .tAnim := by unfold Statement; decide
theorem tPwr : Statement .tPwr := by unfold Statement; decide
theorem tLatch : Statement .tLatch := by unfold Statement; decide
theorem tSelclr : Statement .tSelclr := by unfold Statement; decide
theorem tSelset : Statement .tSelset := by unfold Statement; decide
theorem tData : Statement .tData := by unfold Statement; decide
theorem tInc : Statement .tInc := by unfold Statement; decide
theorem tRet : Statement .tRet := by unfold Statement; decide
theorem wWieOff : Statement .wWieOff := by unfold Statement; decide
theorem wModeIdle : Statement .wModeIdle := by unfold Statement; decide
theorem wSeOff : Statement .wSeOff := by unfold Statement; decide
theorem wLedOn : Statement .wLedOn := by unfold Statement; decide
theorem wReqUp : Statement .wReqUp := by unfold Statement; decide
theorem wAnimOff : Statement .wAnimOff := by unfold Statement; decide
theorem wRet : Statement .wRet := by unfold Statement; decide

end Sys2Proof.Laws.CodeClass
end

