-- ==== Sys2Proof/Machine/TraceText.lean ====
section
/-! DEFINITION. The textual form of a trace (spec/30_encoding.md R95; notes/assumptions/16.md). -/

namespace Sys2Proof.Machine

/-- The mnemonic of R81. -/
def mnemonic : Instr → String
  | .evReset => "EV_RESET"
  | .evTick => "EV_TICK"
  | .evBtn _ => "EV_BTN"
  | .irqTick => "IRQ_TICK"
  | .irqWake => "IRQ_WAKE"
  | .mChk => "M_CHK"
  | .mBlank => "M_BLANK"
  | .mWieOn => "M_WIE_ON"
  | .mModeDeep => "M_MODE_DEEP"
  | .mArm => "M_ARM"
  | .mReqNone => "M_REQ_NONE"
  | .mSleep => "M_SLEEP"
  | .mLedOn => "M_LED_ON"
  | .tGate => "T_GATE"
  | .tAnim => "T_ANIM"
  | .tPwr => "T_PWR"
  | .tLatch => "T_LATCH"
  | .tSelclr => "T_SELCLR"
  | .tSelset => "T_SELSET"
  | .tData => "T_DATA"
  | .tInc => "T_INC"
  | .tRet => "T_RET"
  | .wWieOff => "W_WIE_OFF"
  | .wModeIdle => "W_MODE_IDLE"
  | .wSeOff => "W_SE_OFF"
  | .wLedOn => "W_LED_ON"
  | .wReqUp => "W_REQ_UP"
  | .wAnimOff => "W_ANIM_OFF"
  | .wRet => "W_RET"

/-- The operand as R95 writes it: `EV_BTN 0` is a press, `EV_BTN 1` a release. -/
def operandText : Instr → String
  | .evBtn level => if level then " 1" else " 0"
  | _ => ""

/-- A line of a trace as text: the mnemonic, the operand, and the position if the line names one (R95). -/
def lineText (l : TraceLine) : String :=
  mnemonic l.instr ++ operandText l.instr ++
    match l.position with
    | none => ""
    | some p => "@" ++ toString p

/-- The 30 codes' operations, in the order of R81. -/
def allInstrs : List Instr :=
  [.evReset, .evTick, .evBtn false, .evBtn true, .irqTick, .irqWake, .mChk, .mBlank,
   .mWieOn, .mModeDeep, .mArm, .mReqNone, .mSleep, .mLedOn, .tGate, .tAnim,
   .tPwr, .tLatch, .tSelclr, .tSelset, .tData, .tInc, .tRet, .wWieOff,
   .wModeIdle, .wSeOff, .wLedOn, .wReqUp, .wAnimOff, .wRet]

/-- Every well-formed line: each operation without a position, and with each position it may name. -/
def allLines : List TraceLine :=
  allInstrs.flatMap fun i =>
    { instr := i, position := none } ::
      i.writtenPositions.map fun p => { instr := i, position := some p }

/-- A line without its comment, which starts with a semicolon (R95), and without blanks at its end. -/
def stripComment (text : List Char) : List Char :=
  ((text.takeWhile (· != ';')).reverse.dropWhile (· == ' ')).reverse

/-- Reading a line: the well-formed line of that text. -/
def readLine (text : List Char) : Option TraceLine :=
  allLines.find? fun l => (lineText l).toList == stripComment text

/-- The byte of a line: the position suffix is no part of the code (R95). -/
def lineByte (l : TraceLine) : Byte := encode l.instr

end Sys2Proof.Machine
end

