-- ==== Sys2Proof/Tests/Slice0.lean ====
section
/-! SUPPORT. The model's own tests: the decoding of every code, the refusals of well-formedness, the spec's vectors
(spec/95_test_vectors.md section 2, unless a line says otherwise), and a witness for the hypotheses of every statement. -/

namespace Sys2Proof.Tests

open Sys2Proof.Machine
open Sys2Proof.Safety

/-- The state of a run that goes on. -/
def after (o : Host.Outcome State Fault Refusal) : Option State :=
  match o with
  | .next s => some s
  | .fault _ => none
  | .refused _ => none

/-- The reason of a refusal. -/
def reason (o : Host.Outcome State Fault Refusal) : Option Refusal :=
  match o with
  | .next _ => none
  | .fault _ => none
  | .refused r => some r

/-- The reset state of the spec's test vectors. -/
def base : State := State.resetWith false true

/-- MAIN runs, at a position. -/
def inMain (k : BitVec 4) : State := { base with mpc := k }

/-- The TICK handler runs, at a position. -/
def inTick (k : BitVec 4) : State := { base with intick := true, tpc := k }

/-- The WAKE handler runs, at a position. -/
def inWake (k : BitVec 3) : State := { base with inwake := true, wpc := k }

/-- The first quiescent state after reset (spec/95_test_vectors.md P1). -/
def idle : State := { base with se := true, sleeping := true }

/-- Deep sleep with the wake line enabled. -/
def deepSleep : State := { idle with smode := .deep, wakeIe := true }

/-! ### Well-formedness: each check refuses an ill-formed term -/

theorem test_wf_line_position_wrong_place : TraceLine.wellFormed { instr := .mArm, position := some 6 } = false := by
  decide

theorem test_wf_line_position_not_allowed : TraceLine.wellFormed { instr := .mChk, position := some 0 } = false := by
  decide

theorem test_wf_line_position_allowed : TraceLine.wellFormed { instr := .mSleep, position := some 9 } = true := by
  decide

theorem test_wf_factor_zero : factorWellFormed 0 = false := by decide

theorem test_wf_factor_too_large : factorWellFormed 65537 = false := by decide

/-! ### Decoding: the words of spec/30_encoding.md R81, written out -/

theorem test_decode_evReset : decode 0b00000000#8 = .ok .evReset := rfl

theorem test_decode_evTick : decode 0b00000001#8 = .ok .evTick := rfl

theorem test_decode_evBtn_press : decode 0b00000010#8 = .ok (.evBtn false) := rfl

theorem test_decode_evBtn_release : decode 0b00000011#8 = .ok (.evBtn true) := rfl

theorem test_decode_irqTick : decode 0b00000100#8 = .ok .irqTick := rfl

theorem test_decode_irqWake : decode 0b00000101#8 = .ok .irqWake := rfl

theorem test_decode_mChk : decode 0b00010000#8 = .ok .mChk := rfl

theorem test_decode_mBlank : decode 0b00010001#8 = .ok .mBlank := rfl

theorem test_decode_mWieOn : decode 0b00010010#8 = .ok .mWieOn := rfl

theorem test_decode_mModeDeep : decode 0b00010011#8 = .ok .mModeDeep := rfl

theorem test_decode_mArm : decode 0b00010100#8 = .ok .mArm := rfl

theorem test_decode_mReqNone : decode 0b00010101#8 = .ok .mReqNone := rfl

theorem test_decode_mSleep : decode 0b00010110#8 = .ok .mSleep := rfl

theorem test_decode_mLedOn : decode 0b00010111#8 = .ok .mLedOn := rfl

theorem test_decode_tGate : decode 0b00100000#8 = .ok .tGate := rfl

theorem test_decode_tAnim : decode 0b00100001#8 = .ok .tAnim := rfl

theorem test_decode_tPwr : decode 0b00100010#8 = .ok .tPwr := rfl

theorem test_decode_tLatch : decode 0b00100011#8 = .ok .tLatch := rfl

theorem test_decode_tSelclr : decode 0b00100100#8 = .ok .tSelclr := rfl

theorem test_decode_tSelset : decode 0b00100101#8 = .ok .tSelset := rfl

theorem test_decode_tData : decode 0b00100110#8 = .ok .tData := rfl

theorem test_decode_tInc : decode 0b00100111#8 = .ok .tInc := rfl

theorem test_decode_tRet : decode 0b00101000#8 = .ok .tRet := rfl

theorem test_decode_wWieOff : decode 0b00110000#8 = .ok .wWieOff := rfl

theorem test_decode_wModeIdle : decode 0b00110001#8 = .ok .wModeIdle := rfl

theorem test_decode_wSeOff : decode 0b00110010#8 = .ok .wSeOff := rfl

theorem test_decode_wLedOn : decode 0b00110011#8 = .ok .wLedOn := rfl

theorem test_decode_wReqUp : decode 0b00110100#8 = .ok .wReqUp := rfl

theorem test_decode_wAnimOff : decode 0b00110101#8 = .ok .wAnimOff := rfl

theorem test_decode_wRet : decode 0b00110110#8 = .ok .wRet := rfl

theorem test_decode_reserved : decode 0b00000110#8 = .error (.reservedCode 0b000110#6) := rfl

theorem test_decode_not_a_code : decode 0b01000000#8 = .error (.notACode 0b01000000#8) := rfl

theorem test_table_word : decodeTableWord 8 0x21 = some .tAnim ∧ decodeTableWord 8 0x3F = none := by decide

theorem test_fetch_word_runs_next :
    (after (step (State.reset.withFetchWord 8 0x21))).map (fun t => (t.astate, t.atimer, t.ledbm)) =
      some (.state1, 14999#16, 0x050A#16) := by decide

/-! ### The textual form (spec/30_encoding.md R95) -/

theorem test_text_event : readLine "EV_BTN 0 ; press".toList = some { instr := .evBtn false, position := none } := by
  decide

theorem test_text_position : readLine "M_ARM@8".toList = some { instr := .mArm, position := some 8 } := by decide

theorem test_text_unknown : readLine "M_ARM@5".toList = none := by decide

/-! ### Vectors: events and arbiter -/

theorem test_evReset :
    (after (exec .evReset { inTick 4#4 with ledbm := 0x050A#16, trace := [0x01#8] })).map (fun t => (t.ledbm, t.intick, t.tpc, t.trace)) = some (0x0000#16, false, 0#4, [0x01#8]) := by decide

theorem test_evReset_keeps_parameters :
    (after (exec .evReset { State.resetWith true false with wakeIe := false, btn := true })).map (fun t => (t.wakeIe, t.btn, t.resetParams)) = some (true, false, { wakeIe := true, btn := false }) := by decide

theorem test_evTick_idle :
    (after (exec .evTick idle)).map (fun t => t.tickIf) = some true := by decide

theorem test_evTick_deep :
    (after (exec .evTick deepSleep)).map (fun t => t.tickIf) = some false := by decide

theorem test_evBtn_edge :
    (after (exec (.evBtn false) { base with wakeIe := true })).map (fun t => (t.btn, t.wakeIf)) = some (false, true) := by decide

theorem test_evBtn_disabled :
    (after (exec (.evBtn false) base)).map (fun t => (t.btn, t.wakeIf)) = some (false, false) := by decide

theorem test_irqTick :
    (after (exec .irqTick { idle with tickIf := true })).map (fun t => (t.tickIf, t.intick, t.tpc, t.sleeping)) = some (false, true, 0#4, false) := by decide

theorem test_irqTick_behind_wake :
    reason (exec .irqTick { base with tickIf := true, wakeIf := true, wakeIe := true }) = some .notEnabled := by decide

theorem test_irqWake :
    (after (exec .irqWake { inTick 4#4 with wakeIf := true, wakeIe := true })).map (fun t => (t.wakeIf, t.inwake, t.wpc, t.intick, t.tpc)) = some (false, true, 0#3, true, 4#4) := by decide

/-! ### Vectors: MAIN -/

theorem test_mChk_powerDown :
    (after (exec .mChk { inMain 0#4 with preq := .powerDown })).map (fun t => (t.mreq, t.mpc)) = some (.powerDown, 1#4) := by decide

theorem test_mChk_powerUp :
    (after (exec .mChk { inMain 0#4 with preq := .powerUp })).map (fun t => (t.mreq, t.mpc)) = some (.powerUp, 7#4) := by decide

theorem test_mBlank :
    (after (exec .mBlank { inMain 1#4 with sel := 0b0001#4, data := 0x1A#5 })).map (fun t => (t.sel, t.data, t.mpc)) = some (0b0000#4, 0x00#5, 2#4) := by decide

theorem test_mWieOn :
    (after (exec .mWieOn (inMain 2#4))).map (fun t => (t.wakeIe, t.wakeIf)) = some (true, false) := by decide

theorem test_mModeDeep :
    (after (exec .mModeDeep (inMain 3#4))).map (fun t => t.smode) = some SleepMode.deep := by decide

theorem test_mArm_first :
    (after (exec .mArm (inMain 4#4))).map (fun t => (t.se, t.mpc)) = some (true, 5#4) := by decide

theorem test_mArm_second :
    (after (exec .mArm { inMain 8#4 with se := true })).map (fun t => (t.se, t.mpc)) = some (true, 9#4) := by decide

theorem test_mReqNone :
    (after (exec .mReqNone { inMain 5#4 with preq := .powerUp })).map (fun t => t.preq) = some PowerRequest.none := by decide

theorem test_mSleep_armed :
    (after (exec .mSleep { inMain 9#4 with se := true })).map (fun t => (t.sleeping, t.mpc)) = some (true, 0#4) := by decide

theorem test_mSleep_disarmed :
    (after (exec .mSleep (inMain 6#4))).map (fun t => (t.sleeping, t.mpc)) = some (false, 0#4) := by decide

theorem test_mLedOn :
    (after (exec .mLedOn (inMain 7#4))).map (fun t => (t.pled, t.mpc)) = some (true, 8#4) := by decide

/-! ### Vectors: TICK -/

theorem test_tGate_powerDown :
    (after (exec .tGate { inTick 0#4 with preq := .powerDown })).map (fun t => t.tpc) = some 3#4 := by decide

theorem test_tGate_confirmed :
    (after (exec .tGate { inTick 0#4 with preq := .buttonConfirmed })).map (fun t => t.tpc) = some 1#4 := by decide

theorem test_tAnim_lit_at_401 :
    (after (exec .tAnim { inTick 1#4 with astate := .state2, atimer := 3601#16, ledbm := 0x0500#16 })).map (fun t => (t.astate, t.atimer, t.ledbm)) = some (.state2, 3600#16, 0x050A#16) := by decide

theorem test_tAnim_dark_at_400 :
    (after (exec .tAnim { inTick 1#4 with astate := .state5, atimer := 400#16, ledbm := 0x0A05#16 })).map (fun t => (t.astate, t.atimer, t.ledbm)) = some (.state5, 399#16, 0x0A00#16) := by decide

theorem test_tPwr_long_press :
    (after (exec .tPwr { inTick 2#4 with preq := .buttonPressed, pcount := 1#16, btn := false })).map (fun t => (t.preq, t.pcount, t.pled)) = some (.buttonPressedLong, 0#16, true) := by decide

theorem test_tPwr_abort :
    (after (exec .tPwr { inTick 2#4 with preq := .buttonReleased, pcount := 2000#16, pled := true, btn := false })).map (fun t => (t.preq, t.pcount, t.pled)) = some (.none, 2000#16, true) := by decide

theorem test_tLatch_red_with_power :
    (after (exec .tLatch { inTick 3#4 with n := 6#16, ledbm := 0x050A#16, pled := true })).map (fun t => (t.lidx, t.lval)) = some (2#2, 0x15#5) := by decide

theorem test_tLatch_channel_three :
    (after (exec .tLatch { inTick 3#4 with n := 999#16, ledbm := 0x0A50#16, pled := true })).map (fun t => (t.lidx, t.lval)) = some (3#2, 0x10#5) := by decide

theorem test_tSelclr :
    (after (exec .tSelclr { inTick 4#4 with sel := 0b0100#4, data := 0x15#5 })).map (fun t => (t.sel, t.data)) = some (0b0000#4, 0x15#5) := by decide

theorem test_tSelset :
    (after (exec .tSelset { inTick 5#4 with lidx := 3#2 })).map (fun t => t.sel) = some 0b1000#4 := by decide

theorem test_tData :
    (after (exec .tData { inTick 6#4 with lval := 0x15#5 })).map (fun t => t.data) = some 0x15#5 := by decide

theorem test_tInc_wraps :
    (after (exec .tInc { inTick 7#4 with n := 999#16 })).map (fun t => (t.n, t.fdiv)) = some (0#16, 0#16) := by decide

/-- FACTOR = 2 (P6). -/
theorem test_advance_factor_two :
    ((advance 2 { base with n := 5#16 }).n, (advance 2 { base with n := 5#16 }).fdiv,
      (advance 2 { base with n := 6#16, fdiv := 1#16 }).n, (advance 2 { base with n := 6#16, fdiv := 1#16 }).fdiv) =
      (6#16, 1#16, 6#16, 0#16) := by decide

theorem test_tRet :
    (after (exec .tRet (inTick 8#4))).map (fun t => (t.intick, t.tpc)) = some (false, 0#4) := by decide

/-! ### Vectors: WAKE -/

theorem test_wWieOff :
    (after (exec .wWieOff { inWake 0#3 with wakeIe := true, wakeIf := true })).map (fun t => (t.wakeIe, t.wakeIf)) = some (false, false) := by decide

theorem test_wModeIdle :
    (after (exec .wModeIdle { inWake 1#3 with smode := .deep })).map (fun t => t.smode) = some SleepMode.idle := by decide

theorem test_wSeOff :
    (after (exec .wSeOff { inWake 2#3 with se := true })).map (fun t => t.se) = some false := by decide

theorem test_wLedOn :
    (after (exec .wLedOn (inWake 3#3))).map (fun t => t.pled) = some true := by decide

theorem test_wReqUp :
    (after (exec .wReqUp { inWake 4#3 with preq := .buttonPressed })).map (fun t => t.preq) = some PowerRequest.powerUp := by decide

theorem test_wAnimOff :
    (after (exec .wAnimOff { inWake 5#3 with astate := .state5, atimer := 7#16 })).map (fun t => (t.astate, t.atimer)) = some (.off, 7#16) := by decide

theorem test_wRet :
    (after (exec .wRet { inWake 6#3 with intick := true, tpc := 4#4 })).map (fun t => (t.inwake, t.wpc, t.intick, t.tpc)) = some (false, 0#3, true, 4#4) := by decide

/-! ### Layouts (spec/95_test_vectors.md S1; spec/30_encoding.md R87) -/

theorem test_bitmap_layout :
    bitmapLit 0x050A#16 .green .east = true ∧ bitmapLit 0x050A#16 .green .west = true ∧
    bitmapLit 0x050A#16 .red .south = true ∧ bitmapLit 0x050A#16 .red .north = true ∧
    bitmapLit 0x050A#16 .yellow .south = false ∧ bitmapLit 0x050A#16 .green .south = false := by decide

theorem test_output_lit : outputLit { base with sel := 0b0100#4, data := 0x15#5 } .red .north = true ∧
    powerLedLine { base with data := 0x15#5 } = true := by decide

theorem test_power_states : powerState base = .run ∧ powerState idle = .idle ∧ powerState deepSleep = .deep := by
  decide

/-! ### Witnesses: a state that meets the hypotheses of each statement, clause by clause -/

/-- The invariants hold of the states the witnesses start from. -/
theorem wit_inv_idle : SpecInv idle := by constructor <;> decide

theorem wit_inv_idle_tick : SpecInv { idle with tickIf := true } := by constructor <;> decide

theorem wit_inv_deep : SpecInv deepSleep := by constructor <;> decide

theorem wit_inv_deep_wake : SpecInv { deepSleep with wakeIf := true } := by constructor <;> decide

theorem wit_StepRunsTheDecodedOperation :
    (({ base with trace := [0x01#8, 0x10#8] } : State).trace = [0x01#8, 0x10#8] ∧ decode 0x01#8 = .ok .evTick) ∧
    (base.trace = [] ∧ arbiter base = .code 0x10#8 ∧ decode 0x10#8 = .ok .mChk) :=
  ⟨⟨rfl, rfl⟩, rfl, by decide, rfl⟩

theorem wit_StepRefusesWhatIsNoOperation :
    (({ base with trace := [0x06#8] } : State).trace = [0x06#8] ∧ decode 0x06#8 = .error (.reservedCode 0x06#6)) ∧
    (({ base with trace := [0x40#8] } : State).trace = [0x40#8] ∧ 64 ≤ (0x40#8).toNat) :=
  ⟨⟨rfl, rfl⟩, rfl, by decide⟩

theorem wit_BlockFollowsTheSequenceTables :
    ((inWake 6#3).trace = [] ∧ (inWake 6#3).inwake = true ∧
      ([.wWieOff, .wModeIdle, .wSeOff, .wLedOn, .wReqUp, .wAnimOff, .wRet] : List Instr)[(inWake 6#3).wpc.toNat]? =
        some .wRet) ∧
    (TickAt 8#4 (inTick 8#4) ∧
      ([.tGate, .tAnim, .tPwr, .tLatch, .tSelclr, .tSelset, .tData, .tInc, .tRet] :
        List Instr)[(inTick 8#4).tpc.toNat]? = some .tRet) ∧
    (MainAt 9#4 (inMain 9#4) ∧
      ([.mChk, .mBlank, .mWieOn, .mModeDeep, .mArm, .mReqNone, .mSleep, .mLedOn, .mArm, .mSleep] :
        List Instr)[(inMain 9#4).mpc.toNat]? = some .mSleep) := by decide

theorem wit_DispatchIsStrict :
    (base.trace = [] ∧ WakeTaken { base with wakeIf := true, wakeIe := true }) ∧
    TickTaken { base with tickIf := true } ∧ agentOf .mSleep = .main ∧ agentOf .tRet = .tick ∧
    WakeTaken { inTick 8#4 with wakeIf := true, wakeIe := true } := by decide

theorem wit_OperationExecutesExactlyWhenSelected :
    agentOf .mChk ≠ .environment ∧ after (exec .mChk base) ≠ none ∧ after (exec .tAnim base) = none := by decide

theorem wit_QuiescentStateWaits : Quiescent idle ∧ idle.trace = [] := by decide

theorem wit_ExecKeepsTheTrace : exec .evTick { base with trace := [0x10#8] } =
    .next { base with trace := [0x10#8], tickIf := true } := rfl

theorem wit_EvTickSetsPendingUnlessDeep :
    (deepSleep.sleeping = true ∧ deepSleep.smode = .deep) ∧ ¬ (idle.sleeping = true ∧ idle.smode = .deep) := by decide

theorem wit_EvBtnMovesLineAndDetectsEdge :
    (deepSleep.btn = true ∧ false = false ∧ deepSleep.wakeIe = true) ∧
    ¬ (base.btn = true ∧ false = false ∧ base.wakeIe = true) := by decide

theorem wit_IrqTickEntersTickHandler :
    TickTaken { idle with tickIf := true } ∧ ¬ TickTaken idle ∧ SpecInv deepSleep ∧ deepSleep.sleeping = true ∧
    deepSleep.smode = .deep :=
  ⟨by decide, by decide, wit_inv_deep, rfl, rfl⟩

theorem wit_IrqWakeEntersWakeHandler : WakeTaken { deepSleep with wakeIf := true } ∧ ¬ WakeTaken deepSleep := by decide

theorem wit_SleepEndsOnlyByDispatchOrReset :
    (SpecInv { idle with tickIf := true } ∧ ({ idle with tickIf := true } : State).sleeping = true ∧
      exec .irqTick { idle with tickIf := true } = .next { inTick 0#4 with se := true } ∧
      ({ inTick 0#4 with se := true } : State).sleeping = false) ∧
    (SpecInv { deepSleep with wakeIf := true } ∧ exec .irqWake { deepSleep with wakeIf := true } =
      .next { deepSleep with inwake := true, sleeping := false }) :=
  ⟨⟨wit_inv_idle_tick, rfl, rfl, rfl⟩, wit_inv_deep_wake, rfl⟩


theorem wit_GateSkipsStateMachinesInPowerDown :
    TickAt 0#4 (inTick 0#4) ∧ ¬ TickAt 0#4 base := by decide

theorem wit_SelclrClearsEveryLine :
    TickAt 4#4 (inTick 4#4) ∧ ¬ TickAt 4#4 base := by decide

theorem wit_DataWritesLatchedValue :
    TickAt 6#4 (inTick 6#4) ∧ ¬ TickAt 6#4 base := by decide

theorem wit_IncAdvancesTickCounter :
    TickAt 7#4 (inTick 7#4) ∧ ¬ TickAt 7#4 base := by decide

theorem wit_TickReturnEndsHandler :
    TickAt 8#4 (inTick 8#4) ∧ ¬ TickAt 8#4 base := by decide

theorem wit_LatchComputesIndexAndValue :
    (TickAt 3#4 (inTick 3#4) ∧ (inTick 3#4).fdiv = 0#16) ∧
    (TickAt 3#4 { inTick 3#4 with fdiv := 1#16 } ∧ ({ inTick 3#4 with fdiv := 1#16 } : State).fdiv ≠ 0#16) ∧ ¬ TickAt 3#4 base := by decide

theorem wit_DataLinesPresentBitmapBits :
    SpecInv { inTick 3#4 with n := 999#16, ledbm := 0x050A#16 } ∧
    TickAt 3#4 { inTick 3#4 with n := 999#16, ledbm := 0x050A#16 } ∧
    ({ inTick 3#4 with n := 999#16, ledbm := 0x050A#16 } : State).n.toNat % 4 = 3 ∧
    ({ inTick 3#4 with n := 999#16, ledbm := 0x050A#16 } : State).trace = [] :=
  ⟨by constructor <;> decide, by decide, by decide, rfl⟩

theorem wit_SelsetAssertsLatchedChannel : TickAt 5#4 (inTick 5#4) ∧ SpecInv (inTick 5#4) ∧ ¬ TickAt 5#4 base :=
  ⟨by decide, by constructor <;> decide, by decide⟩

theorem wit_FactorDividesTheUpdates :
    factorWellFormed 1 = true ∧ factorWellFormed 65536 = true ∧ base.fdiv = 0#16 ∧ (1 ≤ 65536 ∧ 65536 ≤ 65536) ∧
    1 ≤ 65535 ∧ 65535 < 65536 := by decide

theorem wit_UndisturbedTickRun :
    (TickTaken { idle with tickIf := true } ∧ ({ idle with tickIf := true } : State).trace = [] ∧
      ({ idle with tickIf := true } : State).fdiv = 0#16 ∧ ({ idle with tickIf := true } : State).preq ≠ .powerDown) ∧
    (TickTaken { base with tickIf := true, preq := .powerDown } ∧
      ({ base with tickIf := true, preq := .powerDown } : State).trace = []) := by decide

theorem wit_AnimationLeavesOffAtOnce :
    TickAt 1#4 (inTick 1#4) ∧ (inTick 1#4).astate = .off ∧ ¬ TickAt 1#4 base := by decide

theorem wit_AnimationHoldsUntilTimerZero :
    TickAt 1#4 { inTick 1#4 with astate := .state1, atimer := 0#16 } ∧
    TickAt 1#4 { inTick 1#4 with astate := .state3, atimer := 0#16 } ∧
    TickAt 1#4 { inTick 1#4 with astate := .state4, atimer := 0#16 } ∧
    TickAt 1#4 { inTick 1#4 with astate := .state6, atimer := 0#16 } ∧
    TickAt 1#4 { inTick 1#4 with astate := .state1, atimer := 1#16 } ∧
    TickAt 1#4 { inTick 1#4 with astate := .state6, atimer := 15000#16 } := by decide

theorem wit_AnimationBlinksUntilTimerZero :
    TickAt 1#4 { inTick 1#4 with astate := .state2, atimer := 0#16 } ∧
    TickAt 1#4 { inTick 1#4 with astate := .state2, atimer := 1#16 } ∧
    TickAt 1#4 { inTick 1#4 with astate := .state5, atimer := 0#16 } ∧
    TickAt 1#4 { inTick 1#4 with astate := .state5, atimer := 1#16 } := by decide

theorem wit_AnimationCycleRepeats :
    base.astate = .off := by decide

theorem wit_PowerCountsThePress :
    TickAt 2#4 { inTick 2#4 with preq := .none, btn := true, pcount := 0#16 } ∧
    TickAt 2#4 { inTick 2#4 with preq := .none, btn := false, pcount := 0#16 } ∧
    TickAt 2#4 { inTick 2#4 with preq := .buttonPressed, btn := true, pcount := 1#16 } ∧
    TickAt 2#4 { inTick 2#4 with preq := .buttonPressed, btn := false, pcount := 1#16 } ∧
    TickAt 2#4 { inTick 2#4 with preq := .buttonPressed, btn := false, pcount := 2#16 } ∧
    ¬ TickAt 2#4 base ∧ (1#16).toNat ≤ 1 ∧ 2 ≤ (2#16).toNat := by decide

theorem wit_PowerCountsTheRelease :
    TickAt 2#4 { inTick 2#4 with preq := .buttonPressedLong, btn := false, pcount := 0#16 } ∧
    TickAt 2#4 { inTick 2#4 with preq := .buttonPressedLong, btn := true, pcount := 0#16 } ∧
    TickAt 2#4 { inTick 2#4 with preq := .buttonReleased, btn := false, pcount := 1#16 } ∧
    TickAt 2#4 { inTick 2#4 with preq := .buttonReleased, btn := true, pcount := 1#16 } ∧
    TickAt 2#4 { inTick 2#4 with preq := .buttonReleased, btn := true, pcount := 2#16 } ∧
    (1#16).toNat ≤ 1 ∧ 2 ≤ (2#16).toNat := by decide

theorem wit_PowerRestsAndEndsPowerUp :
    TickAt 2#4 { inTick 2#4 with preq := .buttonConfirmed, btn := true, pcount := 0#16 } ∧
    TickAt 2#4 { inTick 2#4 with preq := .powerDown, btn := false, pcount := 0#16 } ∧
    TickAt 2#4 { inTick 2#4 with preq := .powerUp, btn := true, pcount := 0#16 } ∧
    TickAt 2#4 { inTick 2#4 with preq := .powerUp, btn := false, pcount := 0#16 } := by decide

theorem wit_DebounceCountsAreFourThousand :
    base.preq = .none ∧ base.pled = false ∧ (1 ≤ 3999 ∧ 3999 ≤ 3999) ∧ 4000 ≤ 4000 := by decide

theorem wit_CheckSamplesRequestAndBranches :
    MainAt 0#4 (inMain 0#4) ∧ ¬ MainAt 0#4 idle := by decide

theorem wit_BlankClearsBothOutputs :
    MainAt 1#4 (inMain 1#4) ∧ ¬ MainAt 1#4 base := by decide

theorem wit_WieOnEnablesWakeLine :
    MainAt 2#4 (inMain 2#4) ∧ ¬ MainAt 2#4 base := by decide

theorem wit_ModeDeepSelectsDeepSleep :
    MainAt 3#4 (inMain 3#4) ∧ ¬ MainAt 3#4 base := by decide

theorem wit_ReqNoneClearsRequest :
    MainAt 5#4 (inMain 5#4) ∧ ¬ MainAt 5#4 base := by decide

theorem wit_LedOnForcesPowerLed :
    MainAt 7#4 (inMain 7#4) ∧ ¬ MainAt 7#4 base := by decide

theorem wit_ArmSetsSleepEnable :
    MainAt 4#4 (inMain 4#4) ∧ MainAt 8#4 (inMain 8#4) ∧ ¬ MainAt 4#4 base ∧ ¬ MainAt 8#4 base := by decide

theorem wit_SleepHaltsOnlyWhenArmed :
    (MainAt 6#4 { inMain 6#4 with se := true } ∧ MainAt 9#4 { inMain 9#4 with se := true }) ∧
    (MainAt 6#4 (inMain 6#4) ∧ MainAt 9#4 (inMain 9#4) ∧ (inMain 6#4).se = false) ∧
    ¬ MainAt 6#4 base ∧ ¬ MainAt 9#4 base := by decide

theorem wit_PowerDownPathSleepsWithWakeEnabled :
    MainAt 0#4 { base with preq := .powerDown } ∧
    ({ base with preq := .powerDown } : State).wakeIf = false ∧ ({ base with preq := .powerDown } : State).trace = [] := by decide

theorem wit_WieOffDisablesAndDiscards :
    WakeAt 0#3 (inWake 0#3) ∧ ¬ WakeAt 0#3 base := by decide

theorem wit_WakeHandlerWritesOneRegisterEach :
    WakeAt 1#3 (inWake 1#3) ∧ WakeAt 2#3 (inWake 2#3) ∧ WakeAt 3#3 (inWake 3#3) ∧ WakeAt 4#3 (inWake 4#3) ∧
    WakeAt 5#3 (inWake 5#3) ∧ ¬ WakeAt 1#3 base ∧ ¬ WakeAt 2#3 base ∧ ¬ WakeAt 3#3 base ∧ ¬ WakeAt 4#3 base ∧
    ¬ WakeAt 5#3 base := by decide

theorem wit_WakeReturnEndsHandler :
    WakeAt 6#3 (inWake 6#3) ∧ ¬ WakeAt 6#3 base := by decide

theorem wit_UndisturbedWakeRun :
    WakeTaken { deepSleep with wakeIf := true } ∧ ({ deepSleep with wakeIf := true } : State).trace = [] := by decide

/-- MAIN at a position of the power-down path, the wake line enabled, a press to come. -/
def edgeAt (k : BitVec 4) : State := { inMain k with wakeIe := true, trace := [encode (.evBtn false)] }

theorem wit_WakeEdgeInsidePowerDownPath :
    ∀ k ∈ [3#4, 4#4, 5#4, 6#4], (edgeAt k).inwake = false ∧ (edgeAt k).intick = false ∧ (edgeAt k).sleeping = false ∧
      (edgeAt k).tickIf = false ∧ (edgeAt k).wakeIf = false ∧ (edgeAt k).wakeIe = true ∧ (edgeAt k).btn = true ∧
      (edgeAt k).trace = [encode (.evBtn false)] ∧ (edgeAt k).mpc = k := by decide

theorem wit_EveryStepKeepsInvariants : SpecInv { idle with tickIf := true } ∧
    step { idle with tickIf := true } = .next { inTick 0#4 with se := true } :=
  ⟨wit_inv_idle_tick, rfl⟩

theorem wit_ReachableStatesKeepSpecInvariants :
    Reachable { State.resetWith true false with trace := [0x01#8, 0x02#8] } :=
  Reachable.start true false [0x01#8, 0x02#8]

theorem wit_OnlyListedWritersChangeRegisters :
    exec .wLedOn (inWake 3#3) = .next { inWake 4#3 with pled := true } ∧ (Instr.wLedOn ≠ .evReset) :=
  ⟨rfl, by decide⟩

theorem wit_QuiescentWithinFortyOneSteps : SpecInv { idle with tickIf := true } ∧
    ({ idle with tickIf := true } : State).trace = [] :=
  ⟨wit_inv_idle_tick, rfl⟩

theorem wit_StuckStateIgnoresEveryInput : Stuck { deepSleep with wakeIe := false } ∧
    ∀ e ∈ [Instr.evTick, .evBtn false, .evBtn true], isInput e = true := by decide

theorem wit_StuckExactlyInDeepSleepWithWakeDisabled :
    Quiescent idle ∧ Quiescent deepSleep ∧ Quiescent { deepSleep with wakeIe := false } := by decide

theorem wit_StepKeepsTheResetParameters :
    step { State.resetWith true false with trace := [0x00#8] } = .next (State.resetWith true false) := rfl

theorem wit_FirstPressAfterResetIsAWakeEdge :
    ({ inTick 4#4 with resetParams := { wakeIe := true, btn := true } } : State).trace = [] ∧
    ({ inTick 4#4 with resetParams := { wakeIe := true, btn := true } } : State).resetParams.btn = true ∧
    ({ inTick 4#4 with resetParams := { wakeIe := true, btn := true } } : State).resetParams.wakeIe = true ∧
    base.trace = [] ∧ base.resetParams.btn = true ∧ base.resetParams.wakeIe = false := by decide

end Sys2Proof.Tests
end

section
/-! PROOFS of the family spec/10_state.md: the reset table. -/

namespace Sys2Proof.Proofs

open Sys2Proof.Machine
open Sys2Proof.Laws

/-- Settles O12: the witness is the reset state itself, and each row of R45 is read off its definition; the rows of the
two OPEN parameters are the laws of `State.resetWith`, and TICK_IE is the hardwired one (R37), no field of the state. -/
theorem resetHoldsTheTable : Obligations.ResetHoldsTheTable := by
  intro w b
  refine ⟨State.resetWith w b, rfl, ?_⟩
  exact
    ⟨-- LEDBM, ASTATE, ATIMER
     rfl, rfl, rfl,
     -- PREQ, PCOUNT, PLED
     rfl, rfl, rfl,
     -- N, FDIV, LIDX, LVAL, MREQ, SEL, DATA
     rfl, rfl, rfl, rfl, rfl, rfl, rfl,
     resetWith_btn w b, resetWith_wakeIe w b,
     -- WAKE_IF, TICK_IF, TICK_IE
     rfl, rfl, rfl,
     -- SMODE, SE, SLEEPING, INTICK, INWAKE
     rfl, rfl, rfl, rfl, rfl,
     -- MPC, TPC, WPC
     rfl, rfl, rfl⟩

end Sys2Proof.Proofs
end

section
/-! PROOFS of the family spec/40_tick_multiplexer.md: the steps of the TICK context that write SEL and DATA. -/

namespace Sys2Proof.Proofs

open Sys2Proof.Machine
open Sys2Proof.Laws
open Sys2Proof.Safety (TickAt)

/-- Both arms of an operation at once, in the words `P` that say where it is enabled (R93, I9). -/
theorem exec_of_enabled_iff {i : Instr} {s : State} {P : Prop} (hP : enabled i s = true ↔ P) :
    (P → exec i s = .next (effect i s)) ∧ (¬ P → exec i s = .refused .notEnabled) :=
  ⟨fun h => exec_of_enabled (hP.mpr h), fun h => exec_of_not_enabled (mt hP.mp h)⟩

theorem enabled_tSelclr (s : State) : enabled .tSelclr s = true ↔ TickAt 4#4 s := tickRuns_at s 4#4

theorem enabled_tData (s : State) : enabled .tData s = true ↔ TickAt 6#4 s := tickRuns_at s 6#4

/-- Settles O23: T_SELCLR is enabled at position 4 of the TICK sequence, and its effect there is R113's, which writes
SEL and TPC alone. -/
theorem selclrClearsEveryLine : Obligations.SelclrClearsEveryLine := by
  refine ⟨rfl, fun s => ?_⟩
  have heffect : effect .tSelclr s = { s with sel := 0b0000#4, tpc := 5#4 } := rfl
  rw [← heffect]
  exact exec_of_enabled_iff (enabled_tSelclr s)

/-- Settles O25: T_DATA is enabled at position 6 of the TICK sequence, and its effect there is R115's, which reads LVAL
and neither LEDBM nor PLED. -/
theorem dataWritesLatchedValue : Obligations.DataWritesLatchedValue := by
  refine ⟨rfl, fun s => ?_⟩
  have heffect : effect .tData s = { s with data := s.lval, tpc := 7#4 } := rfl
  rw [← heffect]
  exact exec_of_enabled_iff (enabled_tData s)

end Sys2Proof.Proofs
end

section
/-! PROOFS of the family spec/41_animation_sm.md: one equation per arm of AnimStep, and T_ANIM as that step and
`TPC <- 2`. -/

namespace Sys2Proof.Proofs

open Sys2Proof.Machine
open Sys2Proof.Laws
open Sys2Proof.Safety (TickAt)

/-! ### AnimStep, arm by arm -/

/-- The decrement (R138) comes after the arm, so a timer the arm has just loaded is one lower when the step ends. -/
theorem animStep_of_arm {s a : State} {v : Word16} (harm : animArm s = a) (hdec : decSat a.atimer = v) :
    animStep s = { a with atimer := v } := by
  rw [animStep_eq, harm, hdec]

/-! A state's length once its first step has counted (R8, R138). -/

theorem decSat_holdTicks : decSat Params.holdTicks = 14999#16 := by decide

theorem decSat_blinkTicks : decSat Params.blinkTicks = 3999#16 := by decide

theorem decSat_amberTicks : decSat Params.amberTicks = 2999#16 := by decide

/-- R131: the Off arm does not test ATIMER. -/
theorem animStep_off {s : State} (ha : s.astate = .off) :
    animStep s = { s with atimer := 14999#16, ledbm := 0x050A#16, astate := .state1 } := by
  have harm : animArm s =
      { s with atimer := Params.holdTicks, ledbm := Params.bmpRedSNGreenEW, astate := .state1 } := by
    simp only [animArm, ha]
  exact animStep_of_arm harm decSat_holdTicks

/-- R132: State1 ends. -/
theorem animStep_state1_of_zero {s : State} (ha : s.astate = .state1) (h0 : s.atimer = 0#16) :
    animStep s = { s with astate := .state2, atimer := 3999#16 } := by
  have harm : animArm s = { s with astate := .state2, atimer := Params.blinkTicks } := by
    simp only [animArm, ha, if_pos h0]
  exact animStep_of_arm harm decSat_blinkTicks

/-- R133: State2 ends. -/
theorem animStep_state2_of_zero {s : State} (ha : s.astate = .state2) (h0 : s.atimer = 0#16) :
    animStep s = { s with astate := .state3, atimer := 2999#16, ledbm := 0x05A0#16 } := by
  have harm : animArm s =
      { s with astate := .state3, atimer := Params.amberTicks, ledbm := Params.bmpRedSNYellowEW } := by
    simp only [animArm, ha, if_pos h0]
  exact animStep_of_arm harm decSat_amberTicks

/-- R134: State3 ends. -/
theorem animStep_state3_of_zero {s : State} (ha : s.astate = .state3) (h0 : s.atimer = 0#16) :
    animStep s = { s with astate := .state4, atimer := 14999#16, ledbm := 0x0A05#16 } := by
  have harm : animArm s =
      { s with astate := .state4, atimer := Params.holdTicks, ledbm := Params.bmpRedEWGreenSN } := by
    simp only [animArm, ha, if_pos h0]
  exact animStep_of_arm harm decSat_holdTicks

/-- R135: State4 ends. -/
theorem animStep_state4_of_zero {s : State} (ha : s.astate = .state4) (h0 : s.atimer = 0#16) :
    animStep s = { s with astate := .state5, atimer := 3999#16 } := by
  have harm : animArm s = { s with astate := .state5, atimer := Params.blinkTicks } := by
    simp only [animArm, ha, if_pos h0]
  exact animStep_of_arm harm decSat_blinkTicks

/-- R136: State5 ends. -/
theorem animStep_state5_of_zero {s : State} (ha : s.astate = .state5) (h0 : s.atimer = 0#16) :
    animStep s = { s with astate := .state6, atimer := 2999#16, ledbm := 0x0A50#16 } := by
  have harm : animArm s =
      { s with astate := .state6, atimer := Params.amberTicks, ledbm := Params.bmpRedEWYellowSN } := by
    simp only [animArm, ha, if_pos h0]
  exact animStep_of_arm harm decSat_amberTicks

/-- R137: State6 ends and loads no timer, and the decrement keeps the 0 that ATIMER holds. -/
theorem animStep_state6_of_zero {s : State} (ha : s.astate = .state6) (h0 : s.atimer = 0#16) :
    animStep s = { s with astate := .off } := by
  have harm : animArm s = { s with astate := .off } := by simp only [animArm, ha, if_pos h0]
  have hdec : decSat s.atimer = s.atimer := by rw [h0, decSat_zero]
  exact animStep_of_arm harm hdec

/-- R132, R134, R135, R137: in the states without a blink, a running timer makes the arm empty. -/
theorem animArm_of_hold {s : State} (ha : s.astate ∈ [.state1, .state3, .state4, .state6]) (h0 : s.atimer ≠ 0#16) :
    animArm s = s := by
  have hcases : s.astate = .state1 ∨ s.astate = .state3 ∨ s.astate = .state4 ∨ s.astate = .state6 := by
    simpa using ha
  rcases hcases with h | h | h | h <;> simp only [animArm, h, if_neg h0]

theorem animStep_of_hold {s : State} (ha : s.astate ∈ [.state1, .state3, .state4, .state6]) (h0 : s.atimer ≠ 0#16) :
    animStep s = { s with atimer := s.atimer - 1#16 } :=
  animStep_of_arm (animArm_of_hold ha h0) (decSat_of_ne h0)

/-- R133: State2 blinks by ATIMER before the decrement. -/
theorem animStep_state2_of_ne {s : State} (ha : s.astate = .state2) (h0 : s.atimer ≠ 0#16) :
    animStep s = { s with
      atimer := s.atimer - 1#16, ledbm := if s.atimer.toNat % 800 > 400 then 0x050A#16 else 0x0500#16 } := by
  have harm : animArm s = { s with ledbm := blink s.atimer Params.bmpRedSNGreenEW Params.bmpRedSN } := by
    simp only [animArm, ha, if_neg h0]
  exact animStep_of_arm harm (decSat_of_ne h0)

/-- R136: State5 blinks by ATIMER before the decrement. -/
theorem animStep_state5_of_ne {s : State} (ha : s.astate = .state5) (h0 : s.atimer ≠ 0#16) :
    animStep s = { s with
      atimer := s.atimer - 1#16, ledbm := if s.atimer.toNat % 800 > 400 then 0x0A05#16 else 0x0A00#16 } := by
  have harm : animArm s = { s with ledbm := blink s.atimer Params.bmpRedEWGreenSN Params.bmpRedEW } := by
    simp only [animArm, ha, if_neg h0]
  exact animStep_of_arm harm (decSat_of_ne h0)

/-! ### T_ANIM -/

theorem enabled_tAnim (s : State) : enabled .tAnim s = true ↔ TickAt 1#4 s := tickRuns_at s 1#4

/-- R130: T_ANIM at its position is AnimStep, then `TPC <- 2`. -/
theorem exec_tAnim_of_animStep {s t : State} (hat : TickAt 1#4 s) (ht : animStep s = t) :
    exec .tAnim s = .next { t with tpc := 2#4 } := by
  subst ht
  exact (exec_of_enabled_iff (enabled_tAnim s)).1 hat

/-- Settles O30: T_ANIM is enabled at position 1 of the TICK sequence, and the Off arm tests nothing. -/
theorem animationLeavesOffAtOnce : Obligations.AnimationLeavesOffAtOnce := by
  refine ⟨rfl, fun s => ⟨fun hat ha => ?_, ?_⟩⟩
  · exact exec_tAnim_of_animStep hat (animStep_off ha)
  · exact (exec_of_enabled_iff (enabled_tAnim s)).2

/-- Settles O31: the ends of the four states without a blink, then their shared counting arm. -/
theorem animationHoldsUntilTimerZero : Obligations.AnimationHoldsUntilTimerZero := by
  intro s hat
  refine ⟨?state1, ?state3, ?state4, ?state6, ?counting⟩
  case state1 => exact fun ⟨ha, h0⟩ => exec_tAnim_of_animStep hat (animStep_state1_of_zero ha h0)
  case state3 => exact fun ⟨ha, h0⟩ => exec_tAnim_of_animStep hat (animStep_state3_of_zero ha h0)
  case state4 => exact fun ⟨ha, h0⟩ => exec_tAnim_of_animStep hat (animStep_state4_of_zero ha h0)
  case state6 => exact fun ⟨ha, h0⟩ => exec_tAnim_of_animStep hat (animStep_state6_of_zero ha h0)
  case counting => exact fun ⟨ha, h0⟩ => exec_tAnim_of_animStep hat (animStep_of_hold ha h0)

/-- Settles O32: the ends of the two blinking states, and their blink while the timer runs. -/
theorem animationBlinksUntilTimerZero : Obligations.AnimationBlinksUntilTimerZero := by
  intro s hat
  refine ⟨?state2_ends, ?state2_blinks, ?state5_ends, ?state5_blinks⟩
  case state2_ends => exact fun ⟨ha, h0⟩ => exec_tAnim_of_animStep hat (animStep_state2_of_zero ha h0)
  case state2_blinks => exact fun ⟨ha, h0⟩ => exec_tAnim_of_animStep hat (animStep_state2_of_ne ha h0)
  case state5_ends => exact fun ⟨ha, h0⟩ => exec_tAnim_of_animStep hat (animStep_state5_of_zero ha h0)
  case state5_blinks => exact fun ⟨ha, h0⟩ => exec_tAnim_of_animStep hat (animStep_state5_of_ne ha h0)

end Sys2Proof.Proofs
end

section
/-! PROOFS of the family spec/43_sleep_wake.md: M_CHK samples PREQ and branches on it. -/

namespace Sys2Proof.Proofs

open Sys2Proof.Machine
open Sys2Proof.Laws
open Sys2Proof.Safety (MainAt)

/-- R171's three-way branch as a test of two values: the four requests it does not name take the idle path. -/
theorem mainBranch_eq (r : PowerRequest) :
    mainBranch r = if r = .powerDown then 1#4 else if r = .powerUp then 7#4 else 8#4 := by
  cases r with
  | powerDown => rfl
  | powerUp => rfl
  | none | buttonPressed | buttonPressedLong | buttonConfirmed | buttonReleased => rfl

theorem enabled_mChk (s : State) : enabled .mChk s = true ↔ MainAt 0#4 s := mainRuns_at s 0#4

/-- Settles O38: M_CHK is enabled at position 0 of the MAIN sequence, and its effect there is R171's, which writes MREQ
and MPC alone. -/
theorem checkSamplesRequestAndBranches : Obligations.CheckSamplesRequestAndBranches := by
  refine ⟨rfl, fun s => ?_⟩
  have heffect : effect .mChk s = { s with mreq := s.preq, mpc := mainBranch s.preq } := rfl
  rw [← mainBranch_eq, ← heffect]
  exact exec_of_enabled_iff (enabled_mChk s)

end Sys2Proof.Proofs
end

section
/-! PROOFS of the family spec/44_events_edge_detector.md: EV_BTN, with and without a wake edge. -/

namespace Sys2Proof.Proofs

open Sys2Proof.Machine
open Sys2Proof.Laws

/-- R204: the edge detector sees a falling edge, and only while the wake line is enabled. -/
theorem wakeEdge_eq_true_iff (old new wakeIe : Bool) :
    wakeEdge old new wakeIe = true ↔ old = true ∧ new = false ∧ wakeIe = true := by
  simp [wakeEdge, and_assoc]

/-- An event is enabled in every state (R200). -/
theorem exec_evBtn (l : Bool) (s : State) : exec (.evBtn l) s = .next (effect (.evBtn l) s) :=
  exec_of_enabled rfl

theorem effect_evBtn_of_edge {l : Bool} {s : State} (h : wakeEdge s.btn l s.wakeIe = true) :
    effect (.evBtn l) s = { s with btn := l, wakeIf := true } := by
  simp only [effect, if_pos h]

/-- R203: without a wake edge WAKE_IF keeps its value, set or clear. -/
theorem effect_evBtn_of_no_edge {l : Bool} {s : State} (h : ¬ wakeEdge s.btn l s.wakeIe = true) :
    effect (.evBtn l) s = { s with btn := l } := by
  simp only [effect, if_neg h]

/-- Settles O15: EV_BTN completes in every state, and the statement's two cases are those of the edge detector. -/
theorem evBtnMovesLineAndDetectsEdge : Obligations.EvBtnMovesLineAndDetectsEdge := by
  refine ⟨rfl, rfl, fun s l => ?_⟩
  rw [← wakeEdge_eq_true_iff, exec_evBtn]
  refine ⟨fun hedge => ?_, fun hno => ?_⟩
  · rw [effect_evBtn_of_edge hedge]
  · rw [effect_evBtn_of_no_edge hno]

end Sys2Proof.Proofs
end

section
/-! PROOFS of the family spec/60_exceptions.md: dispatch of the two interrupts, and what it keeps from running. -/

namespace Sys2Proof.Proofs

open Sys2Proof.Machine
open Sys2Proof.Laws
open Sys2Proof.Safety (WakePending MainAt TickAt TickTaken WakeTaken SpecInv)

/-! ### What the arbiter selects -/

/-- R224: when both interrupts are dispatchable the wake is dispatched first, so it alone decides here. -/
theorem arbiter_of_wakeTaken {s : State} (h : WakeTaken s) : arbiter s = .code 0x05#8 :=
  if_pos ((enabled_irqWake s).mpr h)

theorem arbiter_of_tickTaken {s : State} (h : TickTaken s) : arbiter s = .code 0x04#8 := by
  have hen : (tickDispatchable s && !wakeDispatchable s) = true := (enabled_irqTick s).mpr h
  obtain ⟨htick, hwake⟩ := Bool.and_eq_true_iff.mp hen
  have hno : ¬ wakeDispatchable s = true := by simpa using hwake
  exact (if_neg hno).trans (if_pos htick)

/-! ### What a context's operations need -/

/-- Every MAIN operation needs "MAIN runs" (R81, R232), whatever its position; M_SLEEP is one of them. -/
theorem mainAt_of_enabled {i : Instr} {s : State} (hi : agentOf i = .main) (h : enabled i s = true) :
    MainAt s.mpc s := by
  have hruns : mainRuns s = true := by
    cases i with
    | mChk | mBlank | mWieOn | mModeDeep | mArm | mReqNone | mSleep | mLedOn => exact (Bool.and_eq_true_iff.mp h).1
    | _ => cases hi
  exact (mainRuns_at s s.mpc).mp (by simp [hruns])

/-- Every TICK operation needs "TICK runs" (R81), whatever its position. -/
theorem tickAt_of_enabled {i : Instr} {s : State} (hi : agentOf i = .tick) (h : enabled i s = true) :
    TickAt s.tpc s := by
  have hruns : tickRuns s = true := by
    cases i with
    | tGate | tAnim | tPwr | tLatch | tSelclr | tSelset | tData | tInc | tRet => exact (Bool.and_eq_true_iff.mp h).1
    | _ => cases hi
  exact (tickRuns_at s s.tpc).mp (by simp [hruns])

theorem wakePending_of_wakeTaken {s : State} (h : WakeTaken s) : WakePending s := ⟨h.1, h.2.1⟩

/-- MAIN runs only while no interrupt is dispatchable. -/
theorem not_mainAt_of_taken {s : State} {k : BitVec 4} (h : WakeTaken s ∨ TickTaken s) : ¬ MainAt k s := by
  rintro ⟨-, -, -, hnoWake, htickIf, -⟩
  rcases h with hwake | ⟨htick, -⟩
  · exact hnoWake (wakePending_of_wakeTaken hwake)
  · exact absurd htick (by simp [htickIf])

/-- TICK runs only while the wake interrupt is not dispatchable. -/
theorem not_tickAt_of_wakeTaken {s : State} {k : BitVec 4} (h : WakeTaken s) : ¬ TickAt k s := by
  rintro ⟨-, -, hnoWake, -⟩
  exact hnoWake (wakePending_of_wakeTaken h)

/-- Settles O8: the arbiter looks at the interrupts before the running context, and what a context's operations need
excludes a dispatchable interrupt of a higher level. -/
theorem dispatchIsStrict : Obligations.DispatchIsStrict := by
  intro s
  refine ⟨?wake_next, ?tick_next, ?main_refused, ?tick_refused⟩
  case wake_next => exact fun ht h => step_nil ht (arbiter_of_wakeTaken h) rfl
  case tick_next => exact fun ht h => step_nil ht (arbiter_of_tickTaken h) rfl
  case main_refused =>
    exact fun i hi h => exec_of_not_enabled fun hen => not_mainAt_of_taken h (mainAt_of_enabled hi hen)
  case tick_refused =>
    exact fun i hi h => exec_of_not_enabled fun hen => not_tickAt_of_wakeTaken h (tickAt_of_enabled hi hen)

/-! ### The two arbiter operations -/

/-- R226: in deep sleep EV_TICK is discarded, so no tick is pending that could be taken. -/
theorem not_tickTaken_of_deepSleep {s : State} (hinv : SpecInv s) (hsleep : s.sleeping = true)
    (hdeep : s.smode = .deep) : ¬ TickTaken s := by
  rintro ⟨htick, -⟩
  have hquiet : s.tickIf = false := hinv.deepQuiet hsleep hdeep
  exact absurd htick (by simp [hquiet])

/-- Settles O17: IRQ_TICK's effect is entering the TICK handler, and in deep sleep the invariants leave no pending
tick. -/
theorem irqTickEntersTickHandler : Obligations.IrqTickEntersTickHandler := by
  refine ⟨rfl, fun s => ?_⟩
  have heffect : effect .irqTick s = { s with tickIf := false, intick := true, tpc := 0#4, sleeping := false } := rfl
  rw [← heffect]
  obtain ⟨htaken, hrefused⟩ := exec_of_enabled_iff (enabled_irqTick s)
  exact ⟨htaken, hrefused, fun hinv hsleep hdeep => hrefused (not_tickTaken_of_deepSleep hinv hsleep hdeep)⟩

/-- Settles O18: IRQ_WAKE's effect is entering the WAKE handler, which saves nothing and writes neither MPC, TPC nor
INTICK. -/
theorem irqWakeEntersWakeHandler : Obligations.IrqWakeEntersWakeHandler := by
  refine ⟨rfl, fun s => ?_⟩
  have heffect : effect .irqWake s = { s with wakeIf := false, inwake := true, wpc := 0#3, sleeping := false } := rfl
  rw [← heffect]
  exact exec_of_enabled_iff (enabled_irqWake s)

end Sys2Proof.Proofs
end

section
/-! PROOFS of the family spec/30_encoding.md: the decoder inverts the encoder, class by class. -/

namespace Sys2Proof.Proofs

open Sys2Proof.Machine

/-! ### The four classes of R80 -/

theorem encodeCode_of_decodeClass0 {index : Nat} {i : Instr} (h : decodeClass0 index = some i) :
    encodeCode i = 0b00#2 ++ BitVec.ofNat 4 index := by
  unfold decodeClass0 at h
  split at h <;> cases h <;> rfl

theorem encodeCode_of_decodeMain {index : Nat} {i : Instr} (h : decodeMain index = some i) :
    encodeCode i = 0b01#2 ++ BitVec.ofNat 4 index := by
  unfold decodeMain at h
  split at h <;> cases h <;> rfl

theorem encodeCode_of_decodeTick {index : Nat} {i : Instr} (h : decodeTick index = some i) :
    encodeCode i = 0b10#2 ++ BitVec.ofNat 4 index := by
  unfold decodeTick at h
  split at h <;> cases h <;> rfl

theorem encodeCode_of_decodeWake {index : Nat} {i : Instr} (h : decodeWake index = some i) :
    encodeCode i = 0b11#2 ++ BitVec.ofNat 4 index := by
  unfold decodeWake at h
  split at h <;> cases h <;> rfl

/-! ### Codes and bytes -/

/-- A code is its class and its index (R80). -/
theorem code_eq_class_append_index (c : Code) : c.extractLsb' 4 2 ++ c.extractLsb' 0 4 = c :=
  (BitVec.extractLsb'_append_extractLsb'_eq_extractLsb' (start₁ := 0) (len₁ := 4) rfl).trans
    BitVec.extractLsb'_eq_self

/-- A byte is the two bits above the code and the code. -/
theorem byte_eq_top_append_code (b : Byte) : b.extractLsb' 6 2 ++ b.extractLsb' 0 6 = b :=
  (BitVec.extractLsb'_append_extractLsb'_eq_extractLsb' (start₁ := 0) (len₁ := 6) rfl).trans
    BitVec.extractLsb'_eq_self

theorem encodeCode_of_decodeCode {c : Code} {i : Instr} (h : decodeCode c = some i) : encodeCode i = c := by
  have hindex : BitVec.ofNat 4 (c.extractLsb' 0 4).toNat = c.extractLsb' 0 4 :=
    (BitVec.ofNat_toNat _ _).trans (BitVec.setWidth_eq _)
  have hclass : BitVec.ofNat 2 (c.extractLsb' 4 2).toNat = c.extractLsb' 4 2 :=
    (BitVec.ofNat_toNat _ _).trans (BitVec.setWidth_eq _)
  rw [← code_eq_class_append_index c, ← hindex, ← hclass]
  have hlt : (c.extractLsb' 4 2).toNat < 4 := (c.extractLsb' 4 2).isLt
  unfold decodeCode at h
  split at h
  next h0 => rw [h0]; exact encodeCode_of_decodeClass0 h
  next h1 => rw [h1]; exact encodeCode_of_decodeMain h
  next h2 => rw [h2]; exact encodeCode_of_decodeTick h
  next hne0 hne1 hne2 =>
    have h0 : (c.extractLsb' 4 2).toNat ≠ 0 := hne0
    have h1 : (c.extractLsb' 4 2).toNat ≠ 1 := hne1
    have h2 : (c.extractLsb' 4 2).toNat ≠ 2 := hne2
    rw [show (c.extractLsb' 4 2).toNat = 3 by omega]
    exact encodeCode_of_decodeWake h

theorem decode_encode (i : Instr) : decode (encode i) = .ok i := by
  cases i with
  | evBtn level => cases level <;> rfl
  | _ => rfl

theorem eq_encode_of_decode {b : Byte} {i : Instr} (h : decode b = .ok i) : b = encode i := by
  unfold decode at h
  split at h
  next htop =>
    dsimp only at h
    split at h
    next j hj =>
      cases h
      rw [← byte_eq_top_append_code b, htop, encode, encodeCode_of_decodeCode hj]
    next => cases h
  next => cases h

theorem decode_eq_ok_iff (b : Byte) (i : Instr) : decode b = .ok i ↔ b = encode i :=
  ⟨eq_encode_of_decode, fun h => h ▸ decode_encode i⟩

/-- Settles O1: each class's decoder answers only the operation whose code has that class and index, and the encoder's
byte decodes back. -/
theorem decodeAndEncodeAgree : Obligations.DecodeAndEncodeAgree := decode_eq_ok_iff

/-- Settles O2: each word is the encoding of its operation. -/
theorem specWordsDecode : Obligations.SpecWordsDecode :=
  ⟨decode_encode .evReset, decode_encode .evTick, decode_encode (.evBtn false), decode_encode (.evBtn true),
    decode_encode .irqWake, decode_encode .mArm, decode_encode .mLedOn, decode_encode .tAnim, decode_encode .tRet,
    decode_encode .wRet⟩

/-! ### What the decoder refuses -/

/-- A byte with zeros above the code is decoded by its code alone (notes/assumptions/3.md). -/
theorem decode_append_eq (c : Code) :
    decode (0#2 ++ c) = (decodeCode c).elim (.error (.reservedCode c)) .ok := by
  have htop : (0#2 ++ c).extractLsb' 6 2 = 0#2 := BitVec.extractLsb'_append_eq_left
  have hcode : (0#2 ++ c).extractLsb' 0 6 = c := BitVec.extractLsb'_append_eq_right
  simp only [decode, htop, hcode, if_true]
  cases decodeCode c <;> rfl

theorem decode_eq_reserved_iff (c : Code) :
    decode (0#2 ++ c) = .error (.reservedCode c) ↔ decodeCode c = none := by
  rw [decode_append_eq]
  cases decodeCode c <;> simp

/-- R93: the codes no class's table names. -/
theorem decodeCode_eq_none_iff : ∀ c : Code, decodeCode c = none ↔
    (0x06 ≤ c.toNat ∧ c.toNat ≤ 0x0F) ∨ (0x18 ≤ c.toNat ∧ c.toNat ≤ 0x1F) ∨
    (0x29 ≤ c.toNat ∧ c.toNat ≤ 0x2F) ∨ (0x37 ≤ c.toNat ∧ c.toNat ≤ 0x3F) := by decide

/-- Settles O3: the decoder calls a code reserved where its class's table has no row for it. -/
theorem decoderRefusesExactlyReservedCodes : Obligations.DecoderRefusesExactlyReservedCodes := fun c =>
  (decode_eq_reserved_iff c).trans (decodeCode_eq_none_iff c)

/-- A byte of 64 or more has a bit set above the code. -/
theorem decode_of_ge {b : Byte} (h : 64 ≤ b.toNat) : decode b = .error (.notACode b) := by
  have htop : b.extractLsb' 6 2 ≠ 0#2 := by
    intro h0
    have hnat := congrArg BitVec.toNat h0
    simp only [BitVec.extractLsb'_toNat, Nat.shiftRight_eq_div_pow, BitVec.toNat_ofNat] at hnat
    have := b.isLt
    omega
  exact if_neg htop

/-! ### The numbers of the enumerations -/

theorem animationOfCode_animationCode (a : AnimationState) : animationOfCode (animationCode a) = some a := by
  cases a <;> rfl

theorem requestOfCode_requestCode (p : PowerRequest) : requestOfCode (requestCode p) = some p := by
  cases p <;> rfl

/-- Settles O4: each number is its row of R90 or R91, and reading it back is the lemma of that enumeration. -/
theorem enumerationsAreNumberedInListingOrder : Obligations.EnumerationsAreNumberedInListingOrder :=
  ⟨animationOfCode_animationCode, rfl, requestOfCode_requestCode, rfl, rfl, rfl, rfl, rfl, rfl, rfl, rfl,
    rfl, rfl, rfl, rfl, rfl, rfl, rfl⟩

end Sys2Proof.Proofs
end

section
/-! PROOFS of the family spec/60_exceptions.md R233: what a step runs, and that the arbiter selects an operation exactly
where the operation is enabled. -/

namespace Sys2Proof.Proofs

open Sys2Proof.Machine
open Sys2Proof.Laws
open Sys2Proof.Safety (WakePending MainAt TickAt WakeAt TickTaken WakeTaken Quiescent)

/-! ### The step -/

/-- Settles O5: the two ways a step fetches a code are the two laws of `step`. -/
theorem stepRunsTheDecodedOperation : Obligations.StepRunsTheDecodedOperation :=
  ⟨fun _ _ _ _ ht hd => step_cons ht hd, fun _ _ _ ht ha hd => step_nil ht ha hd⟩

theorem step_of_decode_error {s : State} {b : Byte} {rest : List Byte} {e : DecodeError} (ht : s.trace = b :: rest)
    (hd : decode b = .error e) : step s = .refused (refusalOf e) := by
  simp [step, fetch, ht, hd]

/-- Settles O6: the decoder's error becomes the refusal of the same name. -/
theorem stepRefusesWhatIsNoOperation : Obligations.StepRefusesWhatIsNoOperation :=
  ⟨fun _ _ _ _ ht hd => step_of_decode_error ht hd, fun _ _ _ ht hb => step_of_decode_error ht (decode_of_ge hb)⟩

/-! ### The arbiter, branch by branch -/

/-- At level 2 nothing is dispatchable (R224). -/
theorem wakeDispatchable_of_inwake {s : State} (h : s.inwake = true) : wakeDispatchable s = false := by
  simp [wakeDispatchable, level, h]

theorem tickDispatchable_of_inwake {s : State} (h : s.inwake = true) : tickDispatchable s = false := by
  simp [tickDispatchable, level, h]

/-- In a handler the tick interrupt is not dispatchable (R224). -/
theorem tickDispatchable_of_intick {s : State} (h : s.intick = true) : tickDispatchable s = false := by
  cases hwake : s.inwake <;> simp [tickDispatchable, level, h, hwake]

theorem lookup_eq_code_iff (table : List Byte) (k : Nat) (b : Byte) :
    lookup table k = .code b ↔ table[k]? = some b := by
  unfold lookup
  cases table[k]? <;> simp

theorem lookup_ne_quiescent (table : List Byte) (k : Nat) : lookup table k ≠ .quiescent := by
  unfold lookup
  split <;> simp

theorem arbiter_of_wakeRuns {s : State} (h : wakeRuns s = true) : arbiter s = lookup wakeTable s.wpc.toNat := by
  have hin : s.inwake = true := h
  simp [arbiter, wakeDispatchable_of_inwake hin, tickDispatchable_of_inwake hin, hin]

theorem arbiter_of_tickRuns {s : State} (h : tickRuns s = true) : arbiter s = lookup tickTable s.tpc.toNat := by
  have hruns : (s.inwake = false ∧ s.intick = true) ∧ wakeDispatchable s = false := by simpa [tickRuns] using h
  obtain ⟨⟨hwake, htick⟩, hno⟩ := hruns
  simp [arbiter, hno, tickDispatchable_of_intick htick, hwake, htick]

theorem arbiter_of_mainRuns {s : State} (h : mainRuns s = true) : arbiter s = lookup mainTable s.mpc.toNat := by
  have hruns : (((s.inwake = false ∧ s.intick = false) ∧ s.sleeping = false) ∧ wakeDispatchable s = false) ∧
      tickDispatchable s = false := by simpa [mainRuns] using h
  obtain ⟨⟨⟨⟨hwake, htick⟩, hsleep⟩, hnoWake⟩, hnoTick⟩ := hruns
  simp [arbiter, hnoWake, hnoTick, hwake, htick, hsleep]

theorem arbiter_of_quiescent {s : State} (h : Quiescent s) : arbiter s = .quiescent := by
  obtain ⟨hsleep, htick, hwake, hnoWake, htickIf⟩ := h
  have hw : wakeDispatchable s = false := by
    have : ¬ (s.wakeIf && s.wakeIe) = true := by simpa using hnoWake
    simp [wakeDispatchable, this]
  simp [arbiter, hw, tickDispatchable, htickIf, htick, hwake, hsleep]

/-- The six cases of R233, in the arbiter's order: each state is in one of them. -/
theorem arbiter_cases (s : State) :
    WakeTaken s ∨ TickTaken s ∨ wakeRuns s = true ∨ tickRuns s = true ∨ mainRuns s = true ∨ Quiescent s := by
  cases hwake : s.inwake with
  | true => exact .inr (.inr (.inl hwake))
  | false =>
    by_cases hpending : WakePending s
    · exact .inl ⟨hpending.1, hpending.2, hwake⟩
    cases htick : s.intick with
    | true => exact .inr (.inr (.inr (.inl (by
        simpa using ((tickRuns_at s s.tpc).mpr ⟨hwake, htick, hpending, rfl⟩)))))
    | false =>
      cases htickIf : s.tickIf with
      | true => exact .inr (.inl ⟨htickIf, htick, hwake, hpending⟩)
      | false =>
        cases hsleep : s.sleeping with
        | true => exact .inr (.inr (.inr (.inr (.inr ⟨hsleep, htick, hwake, hpending, htickIf⟩))))
        | false => exact .inr (.inr (.inr (.inr (.inl (by
            simpa using ((mainRuns_at s s.mpc).mpr ⟨hwake, htick, hsleep, hpending, htickIf, rfl⟩))))))

/-! ### The sequence tables and the operations' positions -/

/-- The positions of an operation in its context's sequence table (R82 to R84). -/
def tablePositions : Instr → List Nat
  | .mChk => [0]
  | .mBlank => [1]
  | .mWieOn => [2]
  | .mModeDeep => [3]
  | .mArm => [4, 8]
  | .mReqNone => [5]
  | .mSleep => [6, 9]
  | .mLedOn => [7]
  | .tGate => [0]
  | .tAnim => [1]
  | .tPwr => [2]
  | .tLatch => [3]
  | .tSelclr => [4]
  | .tSelset => [5]
  | .tData => [6]
  | .tInc => [7]
  | .tRet => [8]
  | .wWieOff => [0]
  | .wModeIdle => [1]
  | .wSeOff => [2]
  | .wLedOn => [3]
  | .wReqUp => [4]
  | .wAnimOff => [5]
  | .wRet => [6]
  | _ => []

theorem mainTable_at_iff (i : Instr) (k : BitVec 4) :
    mainTable[k.toNat]? = some (encode i) ↔ agentOf i = .main ∧ k.toNat ∈ tablePositions i := by
  revert k
  cases i with
  | evBtn level => cases level <;> decide
  | _ => decide

theorem tickTable_at_iff (i : Instr) (k : BitVec 4) :
    tickTable[k.toNat]? = some (encode i) ↔ agentOf i = .tick ∧ k.toNat ∈ tablePositions i := by
  revert k
  cases i with
  | evBtn level => cases level <;> decide
  | _ => decide

theorem wakeTable_at_iff (i : Instr) (k : BitVec 3) :
    wakeTable[k.toNat]? = some (encode i) ↔ agentOf i = .wake ∧ k.toNat ∈ tablePositions i := by
  revert k
  cases i with
  | evBtn level => cases level <;> decide
  | _ => decide

/-- A MAIN operation is enabled where MAIN runs and MPC is one of its positions (R81). -/
theorem enabled_main_iff {i : Instr} (hi : agentOf i = .main) (s : State) :
    enabled i s = true ↔ mainRuns s = true ∧ s.mpc.toNat ∈ tablePositions i := by
  cases i with
  | mChk | mBlank | mWieOn | mModeDeep | mArm | mReqNone | mSleep | mLedOn =>
    simp [enabled, tablePositions, ← BitVec.toNat_inj]
  | _ => cases hi

theorem enabled_tick_iff {i : Instr} (hi : agentOf i = .tick) (s : State) :
    enabled i s = true ↔ tickRuns s = true ∧ s.tpc.toNat ∈ tablePositions i := by
  cases i with
  | tGate | tAnim | tPwr | tLatch | tSelclr | tSelset | tData | tInc | tRet =>
    simp [enabled, tablePositions, ← BitVec.toNat_inj]
  | _ => cases hi

theorem enabled_wake_iff {i : Instr} (hi : agentOf i = .wake) (s : State) :
    enabled i s = true ↔ wakeRuns s = true ∧ s.wpc.toNat ∈ tablePositions i := by
  cases i with
  | wWieOff | wModeIdle | wSeOff | wLedOn | wReqUp | wAnimOff | wRet =>
    simp [enabled, tablePositions, ← BitVec.toNat_inj]
  | _ => cases hi

/-! ### Selected and enabled are the same -/

theorem encode_injective {i j : Instr} (h : encode i = encode j) : i = j := by
  have hok := decode_encode i
  rw [h, decode_encode j] at hok
  cases hok
  rfl

/-- An enabled operation of the block is the one the arbiter selects. -/
theorem arbiter_of_enabled {i : Instr} {s : State} (hi : agentOf i ≠ .environment) (h : enabled i s = true) :
    arbiter s = .code (encode i) := by
  cases hagent : agentOf i with
  | environment => exact absurd hagent hi
  | arbiter =>
    cases i with
    | irqWake => exact arbiter_of_wakeTaken ((enabled_irqWake s).mp h)
    | irqTick => exact arbiter_of_tickTaken ((enabled_irqTick s).mp h)
    | _ => cases hagent
  | main =>
    obtain ⟨hruns, hpos⟩ := (enabled_main_iff hagent s).mp h
    rw [arbiter_of_mainRuns hruns, lookup_eq_code_iff, mainTable_at_iff]
    exact ⟨hagent, hpos⟩
  | tick =>
    obtain ⟨hruns, hpos⟩ := (enabled_tick_iff hagent s).mp h
    rw [arbiter_of_tickRuns hruns, lookup_eq_code_iff, tickTable_at_iff]
    exact ⟨hagent, hpos⟩
  | wake =>
    obtain ⟨hruns, hpos⟩ := (enabled_wake_iff hagent s).mp h
    rw [arbiter_of_wakeRuns hruns, lookup_eq_code_iff, wakeTable_at_iff]
    exact ⟨hagent, hpos⟩

/-- An operation the arbiter selects is enabled. -/
theorem enabled_of_arbiter {i : Instr} {s : State} (h : arbiter s = .code (encode i)) : enabled i s = true := by
  rcases arbiter_cases s with hwake | htick | hruns | hruns | hruns | hquiet
  · rw [arbiter_of_wakeTaken hwake] at h
    obtain rfl : Instr.irqWake = i := encode_injective (Selection.code.inj h)
    exact (enabled_irqWake s).mpr hwake
  · rw [arbiter_of_tickTaken htick] at h
    obtain rfl : Instr.irqTick = i := encode_injective (Selection.code.inj h)
    exact (enabled_irqTick s).mpr htick
  · rw [arbiter_of_wakeRuns hruns, lookup_eq_code_iff, wakeTable_at_iff] at h
    exact (enabled_wake_iff h.1 s).mpr ⟨hruns, h.2⟩
  · rw [arbiter_of_tickRuns hruns, lookup_eq_code_iff, tickTable_at_iff] at h
    exact (enabled_tick_iff h.1 s).mpr ⟨hruns, h.2⟩
  · rw [arbiter_of_mainRuns hruns, lookup_eq_code_iff, mainTable_at_iff] at h
    exact (enabled_main_iff h.1 s).mpr ⟨hruns, h.2⟩
  · rw [arbiter_of_quiescent hquiet] at h
    cases h

theorem exec_next_iff_enabled (i : Instr) (s : State) : (∃ t, exec i s = .next t) ↔ enabled i s = true :=
  ⟨fun ⟨_, h⟩ => (exec_next h).1, fun h => ⟨_, exec_of_enabled h⟩⟩

/-- Settles O9: `exec` completes where the operation is enabled, and that is where the arbiter selects its code. -/
theorem operationExecutesExactlyWhenSelected : Obligations.OperationExecutesExactlyWhenSelected := by
  intro i s hi
  rw [exec_next_iff_enabled]
  refine ⟨⟨fun h => ⟨encode i, arbiter_of_enabled hi h, decode_encode i⟩, ?_⟩, exec_of_not_enabled⟩
  rintro ⟨b, ha, hd⟩
  rw [eq_encode_of_decode hd] at ha
  exact enabled_of_arbiter ha

/-- Settles O10: of the arbiter's six cases only the quiescent one selects nothing. -/
theorem quiescentStateWaits : Obligations.QuiescentStateWaits := by
  intro s
  refine ⟨⟨fun ha => ?_, arbiter_of_quiescent⟩, fun hquiet ht => ?_⟩
  · rcases arbiter_cases s with hwake | htick | hruns | hruns | hruns | hquiet
    · rw [arbiter_of_wakeTaken hwake] at ha; cases ha
    · rw [arbiter_of_tickTaken htick] at ha; cases ha
    · exact absurd (arbiter_of_wakeRuns hruns ▸ ha) (lookup_ne_quiescent _ _)
    · exact absurd (arbiter_of_tickRuns hruns ▸ ha) (lookup_ne_quiescent _ _)
    · exact absurd (arbiter_of_mainRuns hruns ▸ ha) (lookup_ne_quiescent _ _)
    · exact hquiet
  · simp [step, fetch, ht, arbiter_of_quiescent hquiet]

/-- A table of codes looked up where the table of its operations has `i`. -/
theorem lookup_map_encode {ops : List Instr} {k : Nat} {i : Instr} (h : ops[k]? = some i) :
    lookup (ops.map encode) k = .code (encode i) := by
  rw [lookup_eq_code_iff, List.getElem?_map, h]
  rfl

/-- Settles O7: each table of codes is the encoding of the table of operations in the statement, and the context that
runs looks up its own. -/
theorem blockFollowsTheSequenceTables : Obligations.BlockFollowsTheSequenceTables := by
  intro s i ht
  refine ⟨?wake, ?tick, ?main⟩
  case wake =>
    intro hwake hop
    exact step_nil ht ((arbiter_of_wakeRuns hwake).trans (lookup_map_encode hop)) (decode_encode i)
  case tick =>
    intro hwake htick hno hop
    have hruns : tickRuns s = true := (Bool.and_eq_true_iff.mp ((tickRuns_at s s.tpc).mpr ⟨hwake, htick, hno, rfl⟩)).1
    exact step_nil ht ((arbiter_of_tickRuns hruns).trans (lookup_map_encode hop)) (decode_encode i)
  case main =>
    intro hwake htick hsleep hno htickIf hop
    have hruns : mainRuns s = true :=
      (Bool.and_eq_true_iff.mp ((mainRuns_at s s.mpc).mpr ⟨hwake, htick, hsleep, hno, htickIf, rfl⟩)).1
    exact step_nil ht ((arbiter_of_mainRuns hruns).trans (lookup_map_encode hop)) (decode_encode i)

end Sys2Proof.Proofs
end

section
/-! PROOFS of the family spec/10_state.md, section 8: which operation writes which register, and that none writes the
model's own fields. -/

namespace Sys2Proof.Proofs

open Sys2Proof.Machine
open Sys2Proof.Laws

/-! ### The frames of the three operations whose effect has cases -/

theorem animStep_writes (s : State) :
    ∃ a timer bitmap, animStep s = { s with astate := a, atimer := timer, ledbm := bitmap } :=
  ⟨_, _, _, animStep_frame s⟩

theorem powerStep_writes (p : Bool) (s : State) :
    ∃ r count led bitmap, powerStep p s = { s with preq := r, pcount := count, pled := led, ledbm := bitmap } :=
  ⟨_, _, _, _, powerStep_frame p s⟩

theorem latch_writes (s : State) : ∃ index value pos, latch s = { s with lidx := index, lval := value, tpc := pos } := by
  by_cases h : s.fdiv = 0#16
  · exact ⟨_, _, _, latch_of_update h⟩
  · exact ⟨_, _, _, latch_of_skip h⟩

/-! ### The model's own fields -/

theorem effect_trace (i : Instr) (s : State) : (effect i s).trace = s.trace := by
  cases i with
  | tAnim => obtain ⟨a, timer, bitmap, h⟩ := animStep_writes s; simp [effect, h]
  | tPwr => obtain ⟨r, count, led, bitmap, h⟩ := powerStep_writes (pressed s) s; simp [effect, h]
  | tLatch => obtain ⟨index, value, pos, h⟩ := latch_writes s; simp [effect, h]
  | _ => rfl

theorem effect_resetParams (i : Instr) (s : State) : (effect i s).resetParams = s.resetParams := by
  cases i with
  | tAnim => obtain ⟨a, timer, bitmap, h⟩ := animStep_writes s; simp [effect, h]
  | tPwr => obtain ⟨r, count, led, bitmap, h⟩ := powerStep_writes (pressed s) s; simp [effect, h]
  | tLatch => obtain ⟨index, value, pos, h⟩ := latch_writes s; simp [effect, h]
  | _ => rfl

/-- Settles O11: what an operation leaves is its effect, and no effect writes the trace. -/
theorem execKeepsTheTrace : Obligations.ExecKeepsTheTrace := by
  intro i s t h
  obtain ⟨-, rfl⟩ := exec_next h
  exact effect_trace i s

/-- Settles O59: a step waits or has one operation's effect, and no effect writes the parameters. -/
theorem stepKeepsTheResetParameters : Obligations.StepKeepsTheResetParameters := by
  intro s t h
  rcases step_next h with ⟨-, -, rfl⟩ | ⟨b, rest, i, -, -, hexec⟩ | ⟨b, i, -, -, -, hexec⟩
  · rfl
  · obtain ⟨-, rfl⟩ := exec_next hexec
    exact effect_resetParams i _
  · obtain ⟨-, rfl⟩ := exec_next hexec
    exact effect_resetParams i s

/-! ### The registers -/

/-- Settles O55: per operation, a register its effect does not name is the old one, and for a register it names the
operation stands in the "written by" column. -/
theorem onlyListedWritersChangeRegisters : Obligations.OnlyListedWritersChangeRegisters := by
  intro i s t h hreset
  obtain ⟨-, rfl⟩ := exec_next h
  cases i with
  | evReset => exact absurd rfl hreset
  | evBtn level => cases level <;> simp [effect, agentOf]
  | tAnim => obtain ⟨a, timer, bitmap, hwrites⟩ := animStep_writes s; simp [effect, hwrites, agentOf]
  | tPwr => obtain ⟨r, count, led, bitmap, hwrites⟩ := powerStep_writes (pressed s) s; simp [effect, hwrites, agentOf]
  | tLatch => obtain ⟨index, value, pos, hwrites⟩ := latch_writes s; simp [effect, hwrites, agentOf]
  | tInc => simp [effect, advance, agentOf]
  | _ => simp [effect, agentOf]

end Sys2Proof.Proofs
end

section
/-! PROOFS of the statements that give one operation's whole effect: each operation is enabled at its position of its
context's sequence, and its effect there is the rule's. -/

namespace Sys2Proof.Proofs

open Sys2Proof.Machine
open Sys2Proof.Laws
open Sys2Proof.Safety (MainAt TickAt WakeAt SpecInv)

/-- Both arms of an operation with its effect written out. -/
theorem exec_of_effect {i : Instr} {s t : State} {P : Prop} (hP : enabled i s = true ↔ P) (ht : effect i s = t) :
    (P → exec i s = .next t) ∧ (¬ P → exec i s = .refused .notEnabled) := by
  subst ht
  exact exec_of_enabled_iff hP

/-! ### Events -/

/-- Settles O13: EV_RESET is enabled in every state, and its effect is the reset state with the trace kept. -/
theorem evResetWritesEveryRegister : Obligations.EvResetWritesEveryRegister := fun _ =>
  exec_of_enabled (i := .evReset) rfl

theorem exec_evTick (s : State) : exec .evTick s = .next { s with tickIf := tickPending s } :=
  exec_of_enabled (i := .evTick) rfl

/-- R202: the tick source is stopped in deep sleep. -/
theorem tickPending_of_deep {s : State} (hsleep : s.sleeping = true) (hdeep : s.smode = .deep) :
    tickPending s = s.tickIf := by
  simp [tickPending, hsleep, hdeep, smodeBit]

theorem tickPending_of_not_deep {s : State} (h : ¬ (s.sleeping = true ∧ s.smode = .deep)) : tickPending s = true := by
  have hbit : ¬ (s.sleeping && smodeBit s.smode) = true := by
    cases hmode : s.smode <;> simp_all [smodeBit]
  exact if_neg hbit

/-- Settles O14: in deep sleep the tick source keeps TICK_IF as it is, elsewhere it sets it. -/
theorem evTickSetsPendingUnlessDeep : Obligations.EvTickSetsPendingUnlessDeep := by
  refine ⟨rfl, fun s => ⟨fun ⟨hsleep, hdeep⟩ => ?_, fun h => ?_⟩⟩
  · rw [exec_evTick, tickPending_of_deep hsleep hdeep]
  · rw [exec_evTick, tickPending_of_not_deep h]

/-! ### TICK -/

/-- Settles O20: T_GATE stands at position 0 of the TICK sequence and writes TPC alone. -/
theorem gateSkipsStateMachinesInPowerDown : Obligations.GateSkipsStateMachinesInPowerDown :=
  ⟨rfl, fun s => exec_of_effect (tickRuns_at s 0#4) rfl⟩

/-- R88's formula over natural numbers. -/
theorem dataValue_eq_ofNat (bitmap : Word16) (channel : BitVec 2) (led : Bool) :
    dataValue bitmap channel led =
      BitVec.ofNat 5 (((bitmap.toNat >>> (4 * channel.toNat)) &&& 0xF) ||| (if led then 0x10 else 0)) := by
  have hled : BitVec.ofNat 5 (if led then 0x10 else 0) = if led then Params.pwrLedBit else 0#5 := by
    cases led <;> rfl
  have hnibble : (nibble bitmap channel).setWidth 5 =
      BitVec.ofNat 5 ((bitmap.toNat >>> (4 * channel.toNat)) &&& 0xF) := by
    have hmask (x : Nat) : x &&& 0xF = x % 16 := Nat.and_two_pow_sub_one_eq_mod x 4
    apply BitVec.eq_of_toNat_eq
    simp only [nibble, BitVec.toNat_setWidth, BitVec.toNat_and, BitVec.toNat_ushiftRight, BitVec.toNat_ofNat,
      Nat.reducePow, Nat.reduceMod, hmask]
    omega
  rw [BitVec.ofNat_or, hled, ← hnibble, dataValue]

/-- R112's index and value in the words of the statements. -/
theorem latch_eq_of_update {s : State} (h : s.fdiv = 0#16) :
    latch s = { s with
      lidx := BitVec.ofNat 2 (s.n.toNat % 4)
      lval := BitVec.ofNat 5
        (((s.ledbm.toNat >>> (4 * (s.n.toNat % 4))) &&& 0xF) ||| (if s.pled then 0x10 else 0))
      tpc := 4#4 } := by
  rw [latch_of_update h, dataValue_eq_ofNat, channelOf_toNat]
  rfl

theorem enabled_tLatch (s : State) : enabled .tLatch s = true ↔ TickAt 3#4 s := tickRuns_at s 3#4

/-- Settles O21: the two arms of T_LATCH are those of FDIV. -/
theorem latchComputesIndexAndValue : Obligations.LatchComputesIndexAndValue := by
  refine ⟨rfl, fun s => ⟨fun hat hdiv => ?update, fun hat hdiv => ?skip, (exec_of_enabled_iff (enabled_tLatch s)).2⟩⟩
  case update => exact (exec_of_effect (enabled_tLatch s) (latch_eq_of_update hdiv)).1 hat
  case skip => exact (exec_of_effect (enabled_tLatch s) (latch_of_skip hdiv)).1 hat

theorem enabled_tSelset (s : State) : enabled .tSelset s = true ↔ TickAt 5#4 s := tickRuns_at s 5#4

/-- Settles O24: under the invariants T_SELSET finds SEL cleared. -/
theorem selsetAssertsLatchedChannel : Obligations.SelsetAssertsLatchedChannel := by
  refine ⟨rfl, fun s => ⟨?asserts, fun hat hinv => ?alone, ?refused⟩⟩
  case asserts => exact (exec_of_effect (enabled_tSelset s) rfl).1
  case alone =>
    obtain ⟨-, -, -, htpc⟩ := id hat
    have hsel : assertSelect s.sel s.lidx = 1#4 <<< s.lidx.toNat := by
      rw [hinv.selectCleared htpc, assertSelect_of_clear]
    rw [← hsel]
    exact (exec_of_effect (enabled_tSelset s) rfl).1 hat
  case refused => exact (exec_of_effect (enabled_tSelset s) rfl).2

/-- Settles O26: T_INC stands at position 7 of the TICK sequence, and its counters are computed exactly (log 11). -/
theorem incAdvancesTickCounter : Obligations.IncAdvancesTickCounter :=
  ⟨rfl, fun s => exec_of_effect (tickRuns_at s 7#4) rfl⟩

/-- Settles O27: T_RET stands at position 8 of the TICK sequence, and its effect is leaving the handler. -/
theorem tickReturnEndsHandler : Obligations.TickReturnEndsHandler :=
  ⟨rfl, fun s => exec_of_effect (tickRuns_at s 8#4) rfl⟩

/-! ### PowerStep, arm by arm (R151 to R157) -/

section
variable {s : State}

theorem powerStep_none_released (hreq : s.preq = .none) : powerStep false s = { s with pled := false } := by
  simp [powerStep, hreq]

/-- R151, R158: the arm that arms the countdown counts the same sample. -/
theorem powerStep_none_pressed (hreq : s.preq = .none) :
    powerStep true s = { s with pcount := 3999#16, preq := .buttonPressed } := by
  have harm : powerStep true s = armPressed true { s with pcount := Params.pressTicks, preq := .buttonPressed } := by
    simp [powerStep, hreq]
  have hcount : Params.pressTicks - 1#16 = 3999#16 := by decide
  rw [harm, armPressed_of_pressed (show 2 ≤ Params.pressTicks.toNat by decide)]
  simp only [hcount]

theorem powerStep_pressed (hreq : s.preq = .buttonPressed) (p : Bool) : powerStep p s = armPressed p s := by
  simp [powerStep, hreq]

theorem powerStep_long_pressed (hreq : s.preq = .buttonPressedLong) : powerStep true s = s := by
  simp [powerStep, hreq]

/-- R153, R158: the arm that arms the countdown counts the same sample. -/
theorem powerStep_long_released (hreq : s.preq = .buttonPressedLong) :
    powerStep false s = { s with pcount := 3999#16, preq := .buttonReleased } := by
  have harm : powerStep false s =
      armReleased false { s with pcount := Params.releaseTicks, preq := .buttonReleased } := by
    simp [powerStep, hreq]
  have hcount : Params.releaseTicks - 1#16 = 3999#16 := by decide
  rw [harm, armReleased_of_released (show 2 ≤ Params.releaseTicks.toNat by decide)]
  simp only [hcount]

theorem powerStep_released (hreq : s.preq = .buttonReleased) (p : Bool) : powerStep p s = armReleased p s := by
  simp [powerStep, hreq]

/-- R154, R156. -/
theorem powerStep_rests (hreq : s.preq = .buttonConfirmed ∨ s.preq = .powerDown) (p : Bool) : powerStep p s = s := by
  rcases hreq with h | h <;> simp [powerStep, h]

theorem powerStep_powerUp_pressed (hreq : s.preq = .powerUp) : powerStep true s = { s with pled := true } := by
  simp [powerStep, hreq]

theorem powerStep_powerUp_released (hreq : s.preq = .powerUp) :
    powerStep false s = { s with pled := false, preq := .none } := by
  simp [powerStep, hreq]

theorem armPressed_released : armPressed false s = { s with preq := .none } := by simp [armPressed]

theorem armReleased_pressed : armReleased true s = { s with preq := .none } := by simp [armReleased]

end

theorem enabled_tPwr (s : State) : enabled .tPwr s = true ↔ TickAt 2#4 s := tickRuns_at s 2#4

/-- R150: T_PWR at its position is PowerStep on the sampled line, then `TPC <- 3`. -/
theorem exec_tPwr_of_powerStep {s t : State} {l : Bool} (hat : TickAt 2#4 s) (hbtn : s.btn = l)
    (ht : powerStep (!l) s = t) : exec .tPwr s = .next { t with tpc := 3#4 } := by
  subst hbtn ht
  exact (exec_of_enabled_iff (enabled_tPwr s)).1 hat

/-- Settles O34: the arms of None and ButtonPressed, each with its sample. -/
theorem powerCountsThePress : Obligations.PowerCountsThePress := by
  refine ⟨rfl, fun s => ⟨(exec_of_enabled_iff (enabled_tPwr s)).2, ?none_released, ?none_pressed, ?abort, ?last, ?counts⟩⟩
  case none_released => exact fun hat hreq hbtn => exec_tPwr_of_powerStep hat hbtn (powerStep_none_released hreq)
  case none_pressed => exact fun hat hreq hbtn => exec_tPwr_of_powerStep hat hbtn (powerStep_none_pressed hreq)
  case abort =>
    exact fun hat hreq hbtn =>
      exec_tPwr_of_powerStep hat hbtn ((powerStep_pressed hreq false).trans armPressed_released)
  case last =>
    exact fun hat hreq hbtn hcount =>
      exec_tPwr_of_powerStep hat hbtn ((powerStep_pressed hreq true).trans (armPressed_of_last hcount))
  case counts =>
    exact fun hat hreq hbtn hcount =>
      exec_tPwr_of_powerStep hat hbtn ((powerStep_pressed hreq true).trans (armPressed_of_pressed hcount))

/-- Settles O35: the arms of ButtonPressedLong and ButtonReleased, each with its sample. -/
theorem powerCountsTheRelease : Obligations.PowerCountsTheRelease := by
  refine fun s hat => ⟨?long_pressed, ?long_released, ?abort, ?last, ?counts⟩
  case long_pressed => exact fun hreq hbtn => exec_tPwr_of_powerStep hat hbtn (powerStep_long_pressed hreq)
  case long_released => exact fun hreq hbtn => exec_tPwr_of_powerStep hat hbtn (powerStep_long_released hreq)
  case abort =>
    exact fun hreq hbtn =>
      exec_tPwr_of_powerStep hat hbtn ((powerStep_released hreq true).trans armReleased_pressed)
  case last =>
    exact fun hreq hbtn hcount =>
      exec_tPwr_of_powerStep hat hbtn ((powerStep_released hreq false).trans (armReleased_of_last hcount))
  case counts =>
    exact fun hreq hbtn hcount =>
      exec_tPwr_of_powerStep hat hbtn ((powerStep_released hreq false).trans (armReleased_of_released hcount))

/-- Settles O36: the two arms that rest, and the end of PowerUp. -/
theorem powerRestsAndEndsPowerUp : Obligations.PowerRestsAndEndsPowerUp := by
  refine fun s hat => ⟨?rests, ?ends, ?held⟩
  case rests => exact fun hreq => exec_tPwr_of_powerStep hat rfl (powerStep_rests hreq _)
  case ends => exact fun hreq hbtn => exec_tPwr_of_powerStep hat hbtn (powerStep_powerUp_released hreq)
  case held => exact fun hreq hbtn => exec_tPwr_of_powerStep hat hbtn (powerStep_powerUp_pressed hreq)

/-! ### MAIN -/

/-- Settles O39: M_BLANK stands at position 1 of the MAIN sequence, and its effect is blanking the port. -/
theorem blankClearsBothOutputs : Obligations.BlankClearsBothOutputs :=
  ⟨rfl, fun s => exec_of_effect (mainRuns_at s 1#4) rfl⟩

/-- Settles O40: M_WIE_ON stands at position 2 of the MAIN sequence and does not look at WAKE_IF. -/
theorem wieOnEnablesWakeLine : Obligations.WieOnEnablesWakeLine :=
  ⟨rfl, fun s => exec_of_effect (mainRuns_at s 2#4) rfl⟩

/-- Settles O41: M_MODE_DEEP stands at position 3 of the MAIN sequence. -/
theorem modeDeepSelectsDeepSleep : Obligations.ModeDeepSelectsDeepSleep :=
  ⟨rfl, fun s => exec_of_effect (mainRuns_at s 3#4) rfl⟩

theorem enabled_mArm (s : State) : enabled .mArm s = true ↔ MainAt 4#4 s ∨ MainAt 8#4 s :=
  mainRuns_at_either s 4#4 8#4

/-- R175: M_ARM goes to the position after its own. -/
theorem effect_mArm_of_mpc {s : State} {k : BitVec 4} (h : s.mpc = k) :
    effect .mArm s = { s with se := true, mpc := k + 1#4 } := by
  rw [← h]
  rfl

/-- Settles O42: M_ARM stands at positions 4 and 8. -/
theorem armSetsSleepEnable : Obligations.ArmSetsSleepEnable := by
  refine ⟨rfl, fun s => ⟨fun hat => ?first, fun hat => ?second, fun hno4 hno8 => ?refused⟩⟩
  case first =>
    obtain ⟨-, -, -, -, -, hmpc⟩ := id hat
    exact (exec_of_effect (enabled_mArm s) (effect_mArm_of_mpc hmpc)).1 (.inl hat)
  case second =>
    obtain ⟨-, -, -, -, -, hmpc⟩ := id hat
    exact (exec_of_effect (enabled_mArm s) (effect_mArm_of_mpc hmpc)).1 (.inr hat)
  case refused => exact (exec_of_enabled_iff (enabled_mArm s)).2 (not_or.mpr ⟨hno4, hno8⟩)

/-- Settles O43: M_REQ_NONE stands at position 5 of the MAIN sequence and does not look at PREQ. -/
theorem reqNoneClearsRequest : Obligations.ReqNoneClearsRequest :=
  ⟨rfl, fun s => exec_of_effect (mainRuns_at s 5#4) rfl⟩

theorem enabled_mSleep (s : State) : enabled .mSleep s = true ↔ MainAt 6#4 s ∨ MainAt 9#4 s :=
  mainRuns_at_either s 6#4 9#4

/-- R177: with SE set the core halts. -/
theorem effect_mSleep_of_armed {s : State} (h : s.se = true) :
    effect .mSleep s = { s with sleeping := true, mpc := 0#4 } := by simp [effect, h]

/-- R177: with SE clear MAIN starts again. -/
theorem effect_mSleep_of_disarmed {s : State} (h : s.se = false) : effect .mSleep s = { s with mpc := 0#4 } := by
  simp [effect, h]

/-- Settles O44: M_SLEEP stands at positions 6 and 9, and its two outcomes are those of SE. -/
theorem sleepHaltsOnlyWhenArmed : Obligations.SleepHaltsOnlyWhenArmed := by
  refine ⟨rfl, fun s => ⟨fun hat hse => ?armed, fun hat hse => ?disarmed, fun hno6 hno9 => ?refused⟩⟩
  case armed => exact (exec_of_effect (enabled_mSleep s) (effect_mSleep_of_armed hse)).1 hat
  case disarmed => exact (exec_of_effect (enabled_mSleep s) (effect_mSleep_of_disarmed hse)).1 hat
  case refused => exact (exec_of_enabled_iff (enabled_mSleep s)).2 (not_or.mpr ⟨hno6, hno9⟩)

/-- Settles O45: M_LED_ON stands at position 7 of the MAIN sequence and does not look at PREQ. -/
theorem ledOnForcesPowerLed : Obligations.LedOnForcesPowerLed :=
  ⟨rfl, fun s => exec_of_effect (mainRuns_at s 7#4) rfl⟩

/-! ### WAKE -/

/-- Settles O47: W_WIE_OFF stands at position 0 of the WAKE sequence. -/
theorem wieOffDisablesAndDiscards : Obligations.WieOffDisablesAndDiscards :=
  ⟨rfl, fun s => exec_of_effect (wakeRuns_at s 0#3) rfl⟩

/-- Settles O48: the five operations at WPC 1 to 5. -/
theorem wakeHandlerWritesOneRegisterEach : Obligations.WakeHandlerWritesOneRegisterEach := by
  refine ⟨rfl, rfl, rfl, rfl, rfl, fun s => ?_⟩
  obtain ⟨hidle, hnoIdle⟩ := exec_of_effect (i := .wModeIdle) (wakeRuns_at s 1#3) rfl
  obtain ⟨hse, hnoSe⟩ := exec_of_effect (i := .wSeOff) (wakeRuns_at s 2#3) rfl
  obtain ⟨hled, hnoLed⟩ := exec_of_effect (i := .wLedOn) (wakeRuns_at s 3#3) rfl
  obtain ⟨hreq, hnoReq⟩ := exec_of_effect (i := .wReqUp) (wakeRuns_at s 4#3) rfl
  obtain ⟨hanim, hnoAnim⟩ := exec_of_effect (i := .wAnimOff) (wakeRuns_at s 5#3) rfl
  exact ⟨hidle, hnoIdle, hse, hnoSe, hled, hnoLed, hreq, hnoReq, hanim, hnoAnim⟩

/-- Settles O49: W_RET stands at position 6 of the WAKE sequence, and its effect is leaving the handler. -/
theorem wakeReturnEndsHandler : Obligations.WakeReturnEndsHandler :=
  ⟨rfl, fun s => exec_of_effect (wakeRuns_at s 6#3) rfl⟩

end Sys2Proof.Proofs
end

section
/-! PROOFS of the family spec/10_state.md, section 8: the invariants hold at reset and every operation and event keeps
them. A lemma names only the invariants that speak of a register its operation writes; the others are those of the state
before. -/

namespace Sys2Proof.Proofs

open Sys2Proof.Machine
open Sys2Proof.Laws
open Sys2Proof.Safety (WakePending MainAt TickAt WakeAt TickTaken WakeTaken SpecInv Reachable bitmapConstants
  exclusiveSelects)

/-! ### Reset -/

/-- Settles O52: at reset no counter runs, no handler is active and no line is pending. -/
theorem resetSatisfiesInvariants : Obligations.ResetSatisfiesInvariants := by
  intro w b
  constructor <;> simp [State.resetWith, Params.factor]

section
variable {s : State}

/-- The invariants do not speak of the trace. -/
theorem specInv_with_trace (h : SpecInv s) (trace : List Byte) : SpecInv { s with trace := trace } := { h with }

/-! ### Events and interrupts -/

theorem specInv_evReset (s : State) : SpecInv (effect .evReset s) :=
  specInv_with_trace (resetSatisfiesInvariants _ _) s.trace

theorem specInv_evTick (h : SpecInv s) : SpecInv (effect .evTick s) := by
  have hquiet (hsleep : s.sleeping = true) (hdeep : s.smode = .deep) : tickPending s = false :=
    (tickPending_of_deep hsleep hdeep).trans (h.deepQuiet hsleep hdeep)
  exact { h with deepQuiet := hquiet }

theorem specInv_evBtn (h : SpecInv s) (level : Bool) : SpecInv (effect (.evBtn level) s) := by
  by_cases hedge : wakeEdge s.btn level s.wakeIe = true
  · obtain ⟨-, -, hie⟩ := (wakeEdge_eq_true_iff _ _ _).mp hedge
    rw [effect_evBtn_of_edge hedge]
    exact { h with wakeGated := fun _ => hie }
  · rw [effect_evBtn_of_no_edge hedge]
    exact { h with }

theorem specInv_irqTick (h : SpecInv s) : SpecInv (effect .irqTick s) :=
  { h with
    haltedIdle := nofun
    tickRest := nofun
    tickPosition := Nat.zero_le 8
    selectCleared := nofun
    indexLatched := nofun
    selectAsserted := nofun
    deepQuiet := nofun
    sleepsAtCheck := nofun }

theorem specInv_irqWake (h : SpecInv s) : SpecInv (effect .irqWake s) :=
  { h with
    wakeGated := nofun
    haltedIdle := nofun
    wakeRest := nofun
    wakePosition := Nat.zero_le 6
    wakeDisabled := fun _ hpos => absurd rfl hpos
    deepQuiet := nofun
    sleepsAtCheck := nofun }

/-! ### MAIN -/

/-- `MPC <- k` while the core does not sleep. -/
theorem specInv_mainTo (h : SpecInv s) {k : BitVec 4} (hawake : s.sleeping = false) (hk : k.toNat ≤ 9)
    (hdown : 1 ≤ k.toNat ∧ k.toNat ≤ 6 → s.mreq = .powerDown) (hup : k = 7#4 → s.mreq = .powerUp) :
    SpecInv (s.mainTo k) :=
  { h with
    mainPosition := hk
    powerDownPath := hdown
    powerUpPath := hup
    sleepsAtCheck := fun hsleep => absurd hsleep (by simp [hawake]) }

theorem mreq_of_powerDownPath (h : SpecInv s) {k : BitVec 4} (hmpc : s.mpc = k) (hk : 1 ≤ k.toNat ∧ k.toNat ≤ 6) :
    s.mreq = .powerDown := by
  subst hmpc
  exact h.powerDownPath hk

/-- `MPC <- k` inside the power-down path. -/
theorem specInv_mainTo_of_path (h : SpecInv s) {j k : BitVec 4} (hat : MainAt j s) (hj : 1 ≤ j.toNat ∧ j.toNat ≤ 6)
    (hk : k.toNat ≤ 6) : SpecInv (s.mainTo k) := by
  obtain ⟨-, -, hawake, -, -, hmpc⟩ := hat
  exact specInv_mainTo h hawake (by omega) (fun _ => mreq_of_powerDownPath h hmpc hj) (fun h7 => by simp [h7] at hk)

/-- `MPC <- k` on the idle path, or back to M_CHK. -/
theorem specInv_mainTo_idle (h : SpecInv s) {k : BitVec 4} (hawake : s.sleeping = false)
    (hk : k = 0#4 ∨ k = 8#4 ∨ k = 9#4) : SpecInv (s.mainTo k) := by
  rcases hk with rfl | rfl | rfl <;> exact specInv_mainTo h hawake (by decide) (by simp) (by simp)

/-- R171: each branch of M_CHK is taken on the request it is meant for. -/
theorem mainBranch_targets (r : PowerRequest) :
    (mainBranch r).toNat ≤ 9 ∧ (1 ≤ (mainBranch r).toNat ∧ (mainBranch r).toNat ≤ 6 → r = .powerDown) ∧
      (mainBranch r = 7#4 → r = .powerUp) := by
  cases r <;> decide

theorem specInv_mChk (h : SpecInv s) (hat : MainAt 0#4 s) : SpecInv (effect .mChk s) := by
  obtain ⟨-, -, hawake, -, -, -⟩ := hat
  obtain ⟨hpos, hdown, hup⟩ := mainBranch_targets s.preq
  exact { h with
    sampleUnconfirmed := h.unconfirmed
    mainPosition := hpos
    powerDownPath := hdown
    powerUpPath := hup
    sleepsAtCheck := fun hsleep => absurd hsleep (by simp [effect, hawake]) }

/-- While MAIN runs no TICK operation is under way. -/
theorem tpc_of_mainAt (h : SpecInv s) {k : BitVec 4} (hat : MainAt k s) : s.tpc = 0#4 := by
  obtain ⟨-, htick, -⟩ := hat
  exact h.tickRest htick

theorem specInv_mBlank (h : SpecInv s) (hat : MainAt 1#4 s) : SpecInv (effect .mBlank s) :=
  { specInv_mainTo_of_path (k := 2#4) h hat (by decide) (by decide) with
    selectExclusive := .head _
    selectCleared := fun _ => rfl
    selectAsserted := fun h6 => absurd ((tpc_of_mainAt h hat).symm.trans h6) (by decide) }

theorem specInv_mWieOn (h : SpecInv s) (hat : MainAt 2#4 s) : SpecInv (effect .mWieOn s) := by
  obtain ⟨hwake, -⟩ := id hat
  exact { specInv_mainTo_of_path (k := 3#4) h hat (by decide) (by decide) with
    wakeGated := fun _ => rfl
    wakeDisabled := fun hin => absurd hin (by simp [effect, hwake]) }

theorem specInv_mModeDeep (h : SpecInv s) (hat : MainAt 3#4 s) : SpecInv (effect .mModeDeep s) := by
  obtain ⟨-, -, -, -, htickIf, -⟩ := id hat
  exact { specInv_mainTo_of_path (k := 4#4) h hat (by decide) (by decide) with
    deepQuiet := fun _ _ => htickIf }

theorem specInv_mArm (h : SpecInv s) (hat : MainAt 4#4 s ∨ MainAt 8#4 s) : SpecInv (effect .mArm s) := by
  rcases hat with hat | hat
  · obtain ⟨-, -, -, -, -, hmpc⟩ := id hat
    rw [effect_mArm_of_mpc hmpc]
    exact { specInv_mainTo_of_path (k := 5#4) h hat (by decide) (by decide) with }
  · obtain ⟨-, -, hawake, -, -, hmpc⟩ := hat
    rw [effect_mArm_of_mpc hmpc]
    exact { specInv_mainTo_idle (k := 9#4) h hawake (by decide) with }

theorem specInv_mReqNone (h : SpecInv s) (hat : MainAt 5#4 s) : SpecInv (effect .mReqNone s) :=
  { specInv_mainTo_of_path (k := 6#4) h hat (by decide) (by decide) with
    unconfirmed := nofun
    counting := nofun }

/-- R177: the core halts only where MAIN runs, so outside the handlers and with no tick pending. -/
theorem specInv_mSleep (h : SpecInv s) (hat : MainAt 6#4 s ∨ MainAt 9#4 s) : SpecInv (effect .mSleep s) := by
  obtain ⟨k, hwake, htick, hawake, -, htickIf, -⟩ : ∃ k, MainAt k s := by
    rcases hat with hat | hat <;> exact ⟨_, hat⟩
  exact { specInv_mainTo_idle (k := 0#4) h hawake (by decide) with
    haltedIdle := fun _ => ⟨htick, hwake⟩
    deepQuiet := fun _ _ => htickIf
    sleepsAtCheck := fun _ => rfl }

theorem specInv_mLedOn (h : SpecInv s) (hat : MainAt 7#4 s) : SpecInv (effect .mLedOn s) := by
  obtain ⟨-, -, hawake, -⟩ := hat
  exact { specInv_mainTo_idle (k := 8#4) h hawake (by decide) with }

/-! ### TICK -/

/-- `TPC <- k` outside the latch and drive steps. -/
theorem specInv_tickTo (h : SpecInv s) {k : BitVec 4} (htick : s.intick = true)
    (hk : k = 1#4 ∨ k = 2#4 ∨ k = 3#4 ∨ k = 7#4 ∨ k = 8#4) : SpecInv (s.tickTo k) := by
  have hfar : k.toNat ≤ 8 ∧ k ≠ 4#4 ∧ k ≠ 5#4 ∧ k ≠ 6#4 := by rcases hk with rfl | rfl | rfl | rfl | rfl <;> decide
  obtain ⟨hpos, h4, h5, h6⟩ := hfar
  exact { h with
    tickRest := fun hout => absurd hout (by simp [htick])
    tickPosition := hpos
    selectCleared := fun hk5 => absurd hk5 h5
    indexLatched := fun hk456 => by rcases hk456 with hk4 | hk5 | hk6 <;> contradiction
    selectAsserted := fun hk6 => absurd hk6 h6 }

theorem specInv_tGate (h : SpecInv s) (hat : TickAt 0#4 s) : SpecInv (effect .tGate s) := by
  obtain ⟨-, htick, -⟩ := hat
  refine specInv_tickTo h htick ?_
  by_cases hreq : s.preq = .powerDown <;> simp [hreq]

/-- R87: the constants of the bitmap have no bit in channel 3's nibble. -/
theorem topNibble_of_mem : ∀ bitmap ∈ bitmapConstants, bitmap.extractLsb' 12 4 = 0#4 := by
  have hall : bitmapConstants.all (fun bitmap => bitmap.extractLsb' 12 4 == 0#4) = true := by decide
  simpa only [List.all_eq_true, beq_iff_eq] using hall

/-- What AnimStep may write. -/
theorem specInv_animation (h : SpecInv s) {a : AnimationState} {timer bitmap : Word16} (htimer : timer.toNat ≤ 15000)
    (hbitmap : bitmap ∈ bitmapConstants) :
    SpecInv { s with astate := a, atimer := timer, ledbm := bitmap } :=
  { h with
    bitmap := hbitmap
    topNibble := topNibble_of_mem bitmap hbitmap
    atimer := htimer }

/-- R138: a running timer counts down. -/
theorem atimer_sub_one_le (h : SpecInv s) (h0 : s.atimer ≠ 0#16) : (s.atimer - 1#16).toNat ≤ 15000 := by
  have hdec := decSat_toNat s.atimer
  rw [decSat_of_ne h0] at hdec
  have := h.atimer
  omega

theorem specInv_animStep (h : SpecInv s) : SpecInv (animStep s) := by
  have hblink (lit dark : Word16) (hlit : lit ∈ bitmapConstants) (hdark : dark ∈ bitmapConstants) :
      (if s.atimer.toNat % 800 > 400 then lit else dark) ∈ bitmapConstants := by split <;> assumption
  by_cases h0 : s.atimer = 0#16
  · cases ha : s.astate with
    | off => rw [animStep_off ha]; exact specInv_animation h (by decide) (by decide)
    | state1 => rw [animStep_state1_of_zero ha h0]; exact specInv_animation h (by decide) h.bitmap
    | state2 => rw [animStep_state2_of_zero ha h0]; exact specInv_animation h (by decide) (by decide)
    | state3 => rw [animStep_state3_of_zero ha h0]; exact specInv_animation h (by decide) (by decide)
    | state4 => rw [animStep_state4_of_zero ha h0]; exact specInv_animation h (by decide) h.bitmap
    | state5 => rw [animStep_state5_of_zero ha h0]; exact specInv_animation h (by decide) (by decide)
    | state6 => rw [animStep_state6_of_zero ha h0]; exact specInv_animation h h.atimer h.bitmap
  · have htimer := atimer_sub_one_le h h0
    cases ha : s.astate with
    | off => rw [animStep_off ha]; exact specInv_animation h (by decide) (by decide)
    | state2 =>
      rw [animStep_state2_of_ne ha h0]
      exact specInv_animation h htimer (hblink _ _ (by decide) (by decide))
    | state5 =>
      rw [animStep_state5_of_ne ha h0]
      exact specInv_animation h htimer (hblink _ _ (by decide) (by decide))
    | state1 | state3 | state4 | state6 =>
      rw [animStep_of_hold (by simp [ha]) h0]
      exact specInv_animation h htimer h.bitmap

theorem specInv_tAnim (h : SpecInv s) (hat : TickAt 1#4 s) : SpecInv (effect .tAnim s) := by
  obtain ⟨-, htick, -⟩ := hat
  refine specInv_tickTo (specInv_animStep h) ?_ (by decide)
  rw [animStep_frame]
  exact htick

/-- What PowerStep may write: a countdown runs from 3999 down to 1. -/
theorem specInv_power (h : SpecInv s) {r : PowerRequest} {count bitmap : Word16} {led : Bool}
    (hreq : r ≠ .buttonConfirmed) (hcount : count.toNat ≤ 4000) (hbitmap : bitmap ∈ bitmapConstants)
    (hrun : r = .buttonPressed ∨ r = .buttonReleased → 1 ≤ count.toNat ∧ count.toNat ≤ 3999) :
    SpecInv { s with preq := r, pcount := count, pled := led, ledbm := bitmap } :=
  { h with
    bitmap := hbitmap
    topNibble := topNibble_of_mem bitmap hbitmap
    pcount := hcount
    unconfirmed := hreq
    counting := hrun }

/-- R151, R152, R155: a countdown above 1 goes on. -/
theorem pcount_sub_one_bounds (hlow : 2 ≤ s.pcount.toNat) (hhigh : s.pcount.toNat ≤ 3999) :
    (s.pcount - 1#16).toNat ≤ 4000 ∧ 1 ≤ (s.pcount - 1#16).toNat ∧ (s.pcount - 1#16).toNat ≤ 3999 := by
  have hne : s.pcount ≠ 0#16 := by rintro h0; simp [h0] at hlow
  have hdec := decSat_toNat s.pcount
  rw [decSat_of_ne hne] at hdec
  omega

theorem specInv_armPressed (h : SpecInv s) (hreq : s.preq = .buttonPressed) (p : Bool) : SpecInv (armPressed p s) := by
  cases p with
  | false => rw [armPressed_released]; exact specInv_power h (by decide) h.pcount h.bitmap nofun
  | true =>
    obtain ⟨-, hhigh⟩ := h.counting (.inl hreq)
    by_cases hlast : s.pcount.toNat ≤ 1
    · rw [armPressed_of_last hlast]
      exact specInv_power h (by decide) (by decide) h.bitmap (by decide)
    · obtain ⟨hmax, hrun⟩ := pcount_sub_one_bounds (Nat.lt_of_not_le hlast) hhigh
      rw [armPressed_of_pressed (Nat.lt_of_not_le hlast)]
      exact specInv_power h h.unconfirmed hmax h.bitmap (fun _ => hrun)

theorem specInv_armReleased (h : SpecInv s) (hreq : s.preq = .buttonReleased) (p : Bool) :
    SpecInv (armReleased p s) := by
  cases p with
  | true => rw [armReleased_pressed]; exact specInv_power h (by decide) h.pcount h.bitmap nofun
  | false =>
    obtain ⟨-, hhigh⟩ := h.counting (.inr hreq)
    by_cases hlast : s.pcount.toNat ≤ 1
    · rw [armReleased_of_last hlast]
      exact specInv_power h (by decide) (by decide) (by decide) (by decide)
    · obtain ⟨hmax, hrun⟩ := pcount_sub_one_bounds (Nat.lt_of_not_le hlast) hhigh
      rw [armReleased_of_released (Nat.lt_of_not_le hlast)]
      exact specInv_power h h.unconfirmed hmax h.bitmap (fun _ => hrun)

theorem specInv_powerStep (h : SpecInv s) (p : Bool) : SpecInv (powerStep p s) := by
  cases hreq : s.preq with
  | none =>
    cases p with
    | false => rw [powerStep_none_released hreq]; exact { h with }
    | true => rw [powerStep_none_pressed hreq]; exact specInv_power h (by decide) (by decide) h.bitmap (by decide)
  | buttonPressed => rw [powerStep_pressed hreq]; exact specInv_armPressed h hreq p
  | buttonPressedLong =>
    cases p with
    | true => rw [powerStep_long_pressed hreq]; exact h
    | false => rw [powerStep_long_released hreq]; exact specInv_power h (by decide) (by decide) h.bitmap (by decide)
  | buttonConfirmed => rw [powerStep_rests (.inl hreq)]; exact h
  | buttonReleased => rw [powerStep_released hreq]; exact specInv_armReleased h hreq p
  | powerDown => rw [powerStep_rests (.inr hreq)]; exact h
  | powerUp =>
    cases p with
    | true => rw [powerStep_powerUp_pressed hreq]; exact { h with }
    | false =>
      rw [powerStep_powerUp_released hreq]
      exact specInv_power h (by decide) h.pcount h.bitmap nofun

theorem specInv_tPwr (h : SpecInv s) (hat : TickAt 2#4 s) : SpecInv (effect .tPwr s) := by
  obtain ⟨-, htick, -⟩ := hat
  refine specInv_tickTo (specInv_powerStep h (pressed s)) ?_ (by decide)
  rw [powerStep_frame]
  exact htick

theorem specInv_tLatch (h : SpecInv s) (hat : TickAt 3#4 s) : SpecInv (effect .tLatch s) := by
  obtain ⟨-, htick, -⟩ := hat
  change SpecInv (latch s)
  by_cases hdiv : s.fdiv = 0#16
  · rw [latch_of_update hdiv]
    exact { h with
      tickRest := fun hout => absurd hout (by simp [htick])
      tickPosition := show (4#4).toNat ≤ 8 by decide
      selectCleared := nofun
      indexLatched := fun _ => rfl
      selectAsserted := nofun }
  · rw [latch_of_skip hdiv]
    exact specInv_tickTo h htick (by decide)

theorem specInv_tSelclr (h : SpecInv s) (hat : TickAt 4#4 s) : SpecInv (effect .tSelclr s) := by
  obtain ⟨-, htick, -, htpc⟩ := hat
  exact { h with
    selectExclusive := .head _
    tickRest := fun hout => absurd hout (by simp [effect, htick])
    tickPosition := show (5#4).toNat ≤ 8 by decide
    selectCleared := fun _ => rfl
    indexLatched := fun _ => h.indexLatched (.inl htpc)
    selectAsserted := nofun }

/-- R121: one line selected is at most one. -/
theorem shift_mem_exclusiveSelects : ∀ channel : BitVec 2, 1#4 <<< channel.toNat ∈ exclusiveSelects := by decide

theorem specInv_tSelset (h : SpecInv s) (hat : TickAt 5#4 s) : SpecInv (effect .tSelset s) := by
  obtain ⟨-, htick, -, htpc⟩ := hat
  have hsel : assertSelect s.sel s.lidx = 1#4 <<< s.lidx.toNat := by
    rw [h.selectCleared htpc, assertSelect_of_clear]
  have hone : assertSelect s.sel s.lidx ∈ exclusiveSelects := by
    rw [hsel]
    exact shift_mem_exclusiveSelects s.lidx
  exact { h with
    selectExclusive := hone
    tickRest := fun hout => absurd hout (by simp [effect, htick])
    tickPosition := show (6#4).toNat ≤ 8 by decide
    selectCleared := nofun
    indexLatched := fun _ => h.indexLatched (.inr (.inl htpc))
    selectAsserted := fun _ => hsel }

theorem specInv_tData (h : SpecInv s) (hat : TickAt 6#4 s) : SpecInv (effect .tData s) := by
  obtain ⟨-, htick, -⟩ := hat
  exact { specInv_tickTo (k := 7#4) h htick (by decide) with }

theorem specInv_tInc (h : SpecInv s) (hat : TickAt 7#4 s) : SpecInv (effect .tInc s) := by
  obtain ⟨-, htick, -⟩ := hat
  have hn : (if s.fdiv = 0#16 then nextN s.n else s.n).toNat ≤ 999 := by
    split
    · rw [nextN_toNat]; omega
    · exact h.counter
  have hdiv : (nextFdiv Params.factor s.fdiv).toNat < Params.factor := by
    rw [nextFdiv_toNat _ _ (by decide) (by decide)]
    exact Nat.mod_lt _ (by decide)
  exact { specInv_tickTo (k := 8#4) h htick (by decide) with
    counter := hn
    divider := hdiv
    indexLatched := nofun }

theorem specInv_tRet (h : SpecInv s) (hat : TickAt 8#4 s) : SpecInv (effect .tRet s) := by
  obtain ⟨hwake, -⟩ := hat
  exact { h with
    haltedIdle := fun _ => ⟨rfl, hwake⟩
    tickRest := fun _ => rfl
    tickPosition := Nat.zero_le 8
    selectCleared := nofun
    indexLatched := nofun
    selectAsserted := nofun }

/-! ### WAKE -/

/-- `WPC <- k` after W_WIE_OFF. -/
theorem specInv_wakeTo (h : SpecInv s) {j k : BitVec 3} (hat : WakeAt j s) (hj : j ≠ 0#3) (hk : k.toNat ≤ 6) :
    SpecInv (s.wakeTo k) := by
  obtain ⟨hwake, hwpc⟩ := hat
  exact { h with
    wakeRest := fun hout => absurd hout (by simp [hwake])
    wakePosition := hk
    wakeDisabled := fun _ _ => h.wakeDisabled hwake (hwpc ▸ hj) }

theorem specInv_wWieOff (h : SpecInv s) (hat : WakeAt 0#3 s) : SpecInv (effect .wWieOff s) := by
  obtain ⟨hwake, -⟩ := hat
  exact { h with
    wakeGated := nofun
    wakeRest := fun hout => absurd hout (by simp [effect, hwake])
    wakePosition := show (1#3).toNat ≤ 6 by decide
    wakeDisabled := fun _ _ => rfl }

/-- A core that sleeps is in no handler, so in the WAKE handler SMODE may change. -/
theorem specInv_wModeIdle (h : SpecInv s) (hat : WakeAt 1#3 s) : SpecInv (effect .wModeIdle s) :=
  { specInv_wakeTo (k := 2#3) h hat (by decide) (by decide) with deepQuiet := nofun }

theorem specInv_wSeOff (h : SpecInv s) (hat : WakeAt 2#3 s) : SpecInv (effect .wSeOff s) :=
  { specInv_wakeTo (k := 3#3) h hat (by decide) (by decide) with }

theorem specInv_wLedOn (h : SpecInv s) (hat : WakeAt 3#3 s) : SpecInv (effect .wLedOn s) :=
  { specInv_wakeTo (k := 4#3) h hat (by decide) (by decide) with }

theorem specInv_wReqUp (h : SpecInv s) (hat : WakeAt 4#3 s) : SpecInv (effect .wReqUp s) :=
  { specInv_wakeTo (k := 5#3) h hat (by decide) (by decide) with
    unconfirmed := nofun
    counting := nofun }

theorem specInv_wAnimOff (h : SpecInv s) (hat : WakeAt 5#3 s) : SpecInv (effect .wAnimOff s) :=
  { specInv_wakeTo (k := 6#3) h hat (by decide) (by decide) with }

theorem specInv_wRet (h : SpecInv s) (hat : WakeAt 6#3 s) : SpecInv (effect .wRet s) := by
  obtain ⟨hwake, -⟩ := hat
  have hawake (hsleep : s.sleeping = true) : False := by
    obtain ⟨-, hout⟩ := h.haltedIdle hsleep
    simp [hwake] at hout
  exact { h with
    haltedIdle := fun hsleep => (hawake hsleep).elim
    wakeRest := fun _ => rfl
    wakePosition := Nat.zero_le 6
    wakeDisabled := nofun }

/-! ### Every operation and every step -/

/-- Each operation where it is enabled, each event everywhere. -/
theorem specInv_effect (h : SpecInv s) {i : Instr} (hen : enabled i s = true) : SpecInv (effect i s) := by
  cases i with
  | evReset => exact specInv_evReset s
  | evTick => exact specInv_evTick h
  | evBtn level => exact specInv_evBtn h level
  | irqTick => exact specInv_irqTick h
  | irqWake => exact specInv_irqWake h
  | mChk => exact specInv_mChk h ((mainRuns_at s _).mp hen)
  | mBlank => exact specInv_mBlank h ((mainRuns_at s _).mp hen)
  | mWieOn => exact specInv_mWieOn h ((mainRuns_at s _).mp hen)
  | mModeDeep => exact specInv_mModeDeep h ((mainRuns_at s _).mp hen)
  | mArm => exact specInv_mArm h ((enabled_mArm s).mp hen)
  | mReqNone => exact specInv_mReqNone h ((mainRuns_at s _).mp hen)
  | mSleep => exact specInv_mSleep h ((enabled_mSleep s).mp hen)
  | mLedOn => exact specInv_mLedOn h ((mainRuns_at s _).mp hen)
  | tGate => exact specInv_tGate h ((tickRuns_at s _).mp hen)
  | tAnim => exact specInv_tAnim h ((tickRuns_at s _).mp hen)
  | tPwr => exact specInv_tPwr h ((tickRuns_at s _).mp hen)
  | tLatch => exact specInv_tLatch h ((tickRuns_at s _).mp hen)
  | tSelclr => exact specInv_tSelclr h ((tickRuns_at s _).mp hen)
  | tSelset => exact specInv_tSelset h ((tickRuns_at s _).mp hen)
  | tData => exact specInv_tData h ((tickRuns_at s _).mp hen)
  | tInc => exact specInv_tInc h ((tickRuns_at s _).mp hen)
  | tRet => exact specInv_tRet h ((tickRuns_at s _).mp hen)
  | wWieOff => exact specInv_wWieOff h ((wakeRuns_at s _).mp hen)
  | wModeIdle => exact specInv_wModeIdle h ((wakeRuns_at s _).mp hen)
  | wSeOff => exact specInv_wSeOff h ((wakeRuns_at s _).mp hen)
  | wLedOn => exact specInv_wLedOn h ((wakeRuns_at s _).mp hen)
  | wReqUp => exact specInv_wReqUp h ((wakeRuns_at s _).mp hen)
  | wAnimOff => exact specInv_wAnimOff h ((wakeRuns_at s _).mp hen)
  | wRet => exact specInv_wRet h ((wakeRuns_at s _).mp hen)

theorem specInv_exec (h : SpecInv s) {i : Instr} {t : State} (hexec : exec i s = .next t) : SpecInv t := by
  obtain ⟨hen, rfl⟩ := exec_next hexec
  exact specInv_effect h hen

end

/-- Settles O53: a step waits, or runs one operation in the state itself or in the state without the trace's head. -/
theorem everyStepKeepsInvariants : Obligations.EveryStepKeepsInvariants := by
  intro s t h hstep
  rcases step_next hstep with ⟨-, -, rfl⟩ | ⟨b, rest, i, -, -, hexec⟩ | ⟨b, i, -, -, -, hexec⟩
  · exact h
  · exact specInv_exec (specInv_with_trace h rest) hexec
  · exact specInv_exec h hexec

theorem specInv_of_reachable {s : State} (h : Reachable s) : SpecInv s := by
  induction h with
  | start w b trace => exact specInv_with_trace (resetSatisfiesInvariants w b) trace
  | step s t _ hstep ih => exact everyStepKeepsInvariants s t ih hstep
  | environment s trace _ ih => exact specInv_with_trace ih trace

/-- The statement of O54 lists the bitmaps with the dark one first. -/
theorem bitmapConstants_subset_listed :
    bitmapConstants ⊆ [0x0000#16, 0x050A#16, 0x0500#16, 0x05A0#16, 0x0A05#16, 0x0A00#16, 0x0A50#16] := by decide

/-- Settles O54: a reachable state has the invariants, and (a) to (i) are among them. -/
theorem reachableStatesKeepSpecInvariants : Obligations.ReachableStatesKeepSpecInvariants := by
  intro s hreach
  have h := specInv_of_reachable hreach
  exact ⟨bitmapConstants_subset_listed h.bitmap, h.topNibble, ⟨h.atimer, h.pcount, h.counter, h.divider⟩,
    h.wakeGated, h.unconfirmed, h.selectExclusive, h.haltedIdle, h.tickRest, h.wakeRest,
    fun hreq => h.counting (.inl hreq), fun hreq => h.counting (.inr hreq)⟩

/-! ### What ends a sleep -/

/-- A halted core executes only events and the dispatch of an interrupt. -/
theorem agent_of_enabled_of_sleeping {s : State} (h : SpecInv s) (hsleep : s.sleeping = true) {i : Instr}
    (hen : enabled i s = true) : agentOf i = .environment ∨ agentOf i = .arbiter := by
  obtain ⟨htick, hwake⟩ := h.haltedIdle hsleep
  cases hagent : agentOf i with
  | environment => exact .inl rfl
  | arbiter => exact .inr rfl
  | main =>
    obtain ⟨-, -, hawake, -⟩ := mainAt_of_enabled hagent hen
    simp [hsleep] at hawake
  | tick =>
    obtain ⟨-, hin, -⟩ := tickAt_of_enabled hagent hen
    simp [htick] at hin
  | wake =>
    obtain ⟨hruns, -⟩ := (enabled_wake_iff hagent s).mp hen
    have hin : s.inwake = true := hruns
    simp [hwake] at hin

/-- Settles O19: a halted core is in no handler and MAIN is at M_CHK, so of what it can execute only EV_RESET and the
dispatches end the sleep, and in deep sleep no tick is pending. -/
theorem sleepEndsOnlyByDispatchOrReset : Obligations.SleepEndsOnlyByDispatchOrReset := by
  intro i s t h hsleep hexec hawake
  obtain ⟨hen, rfl⟩ := exec_next hexec
  have hagent := agent_of_enabled_of_sleeping h hsleep hen
  cases i with
  | evReset => exact ⟨.inl rfl, rfl, fun hne => absurd rfl hne⟩
  | evTick | evBtn => exact absurd (hsleep.symm.trans hawake) (by decide)
  | irqWake => exact ⟨.inr (.inl rfl), h.sleepsAtCheck hsleep, fun _ => rfl⟩
  | irqTick =>
    have hidle : s.smode = .idle := by
      cases hmode : s.smode with
      | idle => rfl
      | deep => exact absurd ((enabled_irqTick s).mp hen) (not_tickTaken_of_deepSleep h hsleep hmode)
    exact ⟨.inr (.inr ⟨rfl, hidle⟩), h.sleepsAtCheck hsleep, fun _ => rfl⟩
  | _ => simp [agentOf] at hagent

end Sys2Proof.Proofs
end

section
/-! PROOFS of the undisturbed runs (spec/30_encoding.md R82 to R84, spec/40_tick_multiplexer.md R118,
spec/43_sleep_wake.md R194, R195): with an empty trace a run is the sequence of the effects of the operations that are
enabled one after another. -/

namespace Sys2Proof.Proofs

open Sys2Proof.Machine
open Sys2Proof.Laws
open Sys2Proof.Safety (WakePending MainAt TickAt WakeAt TickTaken WakeTaken SpecInv)

/-! ### Runs of the block by itself -/

/-- The effects of these operations, one after another. -/
def effects (ops : List Instr) (s : State) : State := ops.foldl (fun s i => effect i s) s

/-- Each of these operations is one of the block and is enabled where it runs. -/
def EnabledInTurn : List Instr → State → Prop
  | [], _ => True
  | i :: ops, s => agentOf i ≠ .environment ∧ enabled i s = true ∧ EnabledInTurn ops (effect i s)

/-- With an empty trace the step is the operation that is enabled. -/
theorem step_of_enabled {i : Instr} {s : State} (ht : s.trace = []) (hi : agentOf i ≠ .environment)
    (hen : enabled i s = true) : step s = .next (effect i s) :=
  (step_nil ht (arbiter_of_enabled hi hen) (decode_encode i)).trans (exec_of_enabled hen)

theorem stepN_succ_of_effect {i : Instr} {k : Nat} {s t : State} (ht : s.trace = []) (hi : agentOf i ≠ .environment)
    (hen : enabled i s = true) (heffect : effect i s = t) : stepN (k + 1) s = stepN k t := by
  rw [stepN_succ_of_step k (step_of_enabled ht hi hen), heffect]

theorem stepN_of_enabledInTurn {ops : List Instr} {s : State} (ht : s.trace = []) (h : EnabledInTurn ops s) :
    stepN ops.length s = .next (effects ops s) := by
  induction ops generalizing s with
  | nil => rfl
  | cons i ops ih =>
    obtain ⟨hi, hen, hrest⟩ := h
    rw [List.length_cons, stepN_succ_of_effect ht hi hen rfl]
    exact ih ((effect_trace i s).trans ht) hrest

/-- The same with the length and the last state named. -/
theorem stepN_of_effects {ops : List Instr} {k : Nat} {s t : State} (ht : s.trace = []) (hk : ops.length = k)
    (h : EnabledInTurn ops s) (he : effects ops s = t) : stepN k s = .next t := by
  subst hk he
  exact stepN_of_enabledInTurn ht h

/-- A run in two parts, the first of which completes. -/
theorem stepN_add_of_next {j k : Nat} {s t : State} (h : stepN j s = .next t) : stepN (j + k) s = stepN k t := by
  rw [stepN_add, h, andThen_next]

/-! ### The paths of MAIN -/

/-- No interrupt is dispatchable and MAIN's code may run. -/
theorem mainRuns_of_mainAt {s : State} {k : BitVec 4} (h : MainAt k s) : mainRuns s = true ∧ s.mpc = k := by
  simpa using (mainRuns_at s k).mpr h

/-- "MAIN runs" is a matter of six flags. -/
theorem mainRuns_congr {s t : State} (hwake : t.inwake = s.inwake) (htick : t.intick = s.intick)
    (hsleep : t.sleeping = s.sleeping) (hif : t.wakeIf = s.wakeIf) (hie : t.wakeIe = s.wakeIe)
    (htif : t.tickIf = s.tickIf) : mainRuns t = mainRuns s := by
  simp [mainRuns, wakeDispatchable, tickDispatchable, level, State.tickIe, hwake, htick, hsleep, hif, hie, htif]

/-- R171, R175, R177: the idle path, M_CHK, M_ARM and M_SLEEP. -/
theorem stepN_idlePath {s : State} (hat : MainAt 0#4 s) (ht : s.trace = []) (hbranch : mainBranch s.preq = 8#4) :
    stepN 3 s = .next { s with mreq := s.preq, se := true, sleeping := true, mpc := 0#4 } := by
  obtain ⟨hruns, hmpc⟩ := mainRuns_of_mainAt hat
  have hen : EnabledInTurn [.mChk, .mArm, .mSleep] s := by
    simp [EnabledInTurn, agentOf, enabled, effect, mainRuns_congr (s := s), hruns, hmpc, hbranch]
  exact stepN_of_effects ht rfl hen (by simp [effects, effect])

/-- R171, R178, R175, R177: the power-up path, M_CHK, M_LED_ON, M_ARM and M_SLEEP. -/
theorem stepN_powerUpPath {s : State} (hat : MainAt 0#4 s) (ht : s.trace = []) (hreq : s.preq = .powerUp) :
    stepN 4 s = .next { s with mreq := .powerUp, pled := true, se := true, sleeping := true, mpc := 0#4 } := by
  obtain ⟨hruns, hmpc⟩ := mainRuns_of_mainAt hat
  have hen : EnabledInTurn [.mChk, .mLedOn, .mArm, .mSleep] s := by
    simp [EnabledInTurn, agentOf, enabled, effect, mainRuns_congr (s := s), hruns, hmpc, hreq, mainBranch]
  exact stepN_of_effects ht rfl hen (by simp [effects, effect, hreq])

/-- R175, R176, R177: the end of the power-down path, M_ARM, M_REQ_NONE and M_SLEEP. -/
theorem stepN_armAndSleep {s : State} (hat : MainAt 4#4 s) (ht : s.trace = []) :
    stepN 3 s = .next { s with se := true, preq := .none, sleeping := true, mpc := 0#4 } := by
  obtain ⟨hruns, hmpc⟩ := mainRuns_of_mainAt hat
  have hen : EnabledInTurn [.mArm, .mReqNone, .mSleep] s := by
    simp [EnabledInTurn, agentOf, enabled, effect, mainRuns_congr (s := s), hruns, hmpc]
  exact stepN_of_effects ht rfl hen (by simp [effects, effect])

/-- R174: M_MODE_DEEP, then the end of the power-down path. -/
theorem stepN_deepAndSleep {s : State} (hat : MainAt 3#4 s) (ht : s.trace = []) :
    stepN 4 s = .next { s with smode := .deep, se := true, preq := .none, sleeping := true, mpc := 0#4 } := by
  have hstep : step s = .next { s with smode := .deep, mpc := 4#4 } :=
    step_of_enabled (i := .mModeDeep) ht (by decide) ((mainRuns_at s 3#4).mpr hat)
  obtain ⟨hwake, htick, hsleep, hno, htickIf, -⟩ := hat
  rw [stepN_succ_of_step 3 hstep]
  exact stepN_armAndSleep ⟨hwake, htick, hsleep, hno, htickIf, rfl⟩ ht

/-- R176, R177: past M_ARM, with SE cleared since, M_REQ_NONE runs and M_SLEEP does not halt. -/
theorem stepN_requestLost {s : State} (hat : MainAt 5#4 s) (ht : s.trace = []) (hse : s.se = false) :
    stepN 2 s = .next { s with preq := .none, mpc := 0#4 } := by
  obtain ⟨hruns, hmpc⟩ := mainRuns_of_mainAt hat
  have hen : EnabledInTurn [.mReqNone, .mSleep] s := by
    simp [EnabledInTurn, agentOf, enabled, effect, mainRuns_congr (s := s), hruns, hmpc]
  exact stepN_of_effects ht rfl hen (by simp [effects, effect, hse])

/-- R177: M_SLEEP of the power-down path with SE cleared since M_ARM. -/
theorem step_sleepDisarmed {s : State} (hat : MainAt 6#4 s) (ht : s.trace = []) (hse : s.se = false) :
    step s = .next { s with mpc := 0#4 } := by
  rw [step_of_enabled (i := .mSleep) ht (by decide) ((enabled_mSleep s).mpr (.inl hat)), effect_mSleep_of_disarmed hse]

/-- R171, R172, R173: the start of the power-down path, M_CHK, M_BLANK and M_WIE_ON. -/
theorem stepN_blankAndEnable {s : State} (hat : MainAt 0#4 s) (ht : s.trace = []) (hreq : s.preq = .powerDown) :
    stepN 3 s = .next { s with
      mreq := .powerDown, sel := 0b0000#4, data := 0b00000#5, wakeIe := true, mpc := 3#4 } := by
  obtain ⟨hruns, hmpc⟩ := mainRuns_of_mainAt hat
  have hen : EnabledInTurn [.mChk, .mBlank, .mWieOn] s := by
    simp [EnabledInTurn, agentOf, enabled, effect, mainRuns_congr (s := s), hruns, hmpc, hreq, mainBranch,
      State.blankPort, State.mainTo]
  exact stepN_of_effects ht rfl hen (by simp [effects, effect, hreq, State.blankPort, State.mainTo])

/-- Settles O46: the line M_WIE_ON enables is not pending, so the rest of the path runs too. -/
theorem powerDownPathSleepsWithWakeEnabled : Obligations.PowerDownPathSleepsWithWakeEnabled := by
  intro s hat hreq hif ht
  have hstart := stepN_blankAndEnable hat ht hreq
  obtain ⟨hwake, htick, hsleep, -, htickIf, -⟩ := hat
  have hno : ¬ WakePending { s with
      mreq := .powerDown, sel := 0b0000#4, data := 0b00000#5, wakeIe := true, mpc := 3#4 } := by simp [hif]
  rw [stepN_add_of_next (k := 4) hstart]
  exact stepN_deepAndSleep ⟨hwake, htick, hsleep, hno, htickIf, rfl⟩ ht

/-! ### The WAKE handler -/

/-- Settles O50: IRQ_WAKE and the seven operations of the WAKE table. -/
theorem undisturbedWakeRun : Obligations.UndisturbedWakeRun := by
  intro s htaken ht
  have hirq : enabled .irqWake s = true := (enabled_irqWake s).mpr htaken
  have hen : EnabledInTurn
      [.irqWake, .wWieOff, .wModeIdle, .wSeOff, .wLedOn, .wReqUp, .wAnimOff, .wRet] s := by
    refine ⟨by decide, hirq, ?_⟩
    simp [EnabledInTurn, agentOf, enabled, effect, wakeRuns]
  exact stepN_of_effects ht rfl hen (by simp [effects, effect, State.enter, State.leave])

/-- R203, R204, R270: a press that comes while the wake line is enabled becomes pending. -/
theorem step_press {s : State} (ht : s.trace = [encode (.evBtn false)]) (hbtn : s.btn = true)
    (hie : s.wakeIe = true) : step s = .next { s with btn := false, wakeIf := true, trace := [] } := by
  rw [step_cons ht (decode_encode _), exec_evBtn]
  have hedge : wakeEdge s.btn false s.wakeIe = true := (wakeEdge_eq_true_iff _ _ _).mpr ⟨hbtn, rfl, hie⟩
  exact congrArg _ (effect_evBtn_of_edge hedge)

/-- What a press and the WAKE handler's run leave of a state in MAIN. -/
def afterPress (s : State) : State :=
  { s with
    btn := false, trace := [], wakeIe := false, wakeIf := false, smode := .idle, se := false, pled := true,
    preq := .powerUp, astate := .off, sleeping := false, inwake := false, wpc := 0#3 }

/-- R195, R270: the press and the WAKE handler's run, inside MAIN. -/
theorem stepN_pressInMain {s : State} (ht : s.trace = [encode (.evBtn false)]) (hbtn : s.btn = true)
    (hie : s.wakeIe = true) (hwake : s.inwake = false) : stepN 9 s = .next (afterPress s) := by
  rw [stepN_succ_of_step 8 (step_press ht hbtn hie)]
  exact undisturbedWakeRun _ ⟨rfl, hie, hwake⟩ rfl

theorem mainAt_afterPress {s : State} {k : BitVec 4} (htick : s.intick = false) (htickIf : s.tickIf = false)
    (hmpc : s.mpc = k) : MainAt k (afterPress s) :=
  ⟨rfl, htick, rfl, nofun, htickIf, hmpc⟩

/-- Settles O51: after the press and the WAKE handler MAIN goes on where it was; in cases A and B it has yet to arm the
sleep, in cases C and D the handler has cleared SE and M_SLEEP does not halt the first time. -/
theorem wakeEdgeInsidePowerDownPath : Obligations.WakeEdgeInsidePowerDownPath := by
  intro s hwake htick hsleep htickIf hif hie hbtn ht
  have hpress := stepN_pressInMain ht hbtn hie hwake
  refine ⟨fun hmpc => ?A, fun hmpc => ?B, fun hmpc => ?C, fun hmpc => ?D⟩
  case A =>
    have hat := mainAt_afterPress htick htickIf hmpc
    refine ⟨_, ?_, ?_, rfl⟩
    · rw [stepN_add_of_next (k := 4) hpress, stepN_deepAndSleep hat rfl]
      simp [afterPress, hwake, hif]
    · exact ⟨⟨rfl, htick, hwake, nofun, htickIf⟩, rfl, rfl⟩
  case B =>
    have hat := mainAt_afterPress htick htickIf hmpc
    rw [stepN_add_of_next (k := 3) hpress, stepN_armAndSleep hat rfl]
    simp [afterPress, hwake, hif]
  case C =>
    have hat := mainAt_afterPress htick htickIf hmpc
    have hlost := stepN_requestLost hat rfl rfl
    have hagain : MainAt 0#4 { afterPress s with preq := .none, mpc := 0#4 } := ⟨rfl, htick, rfl, nofun, htickIf, rfl⟩
    rw [stepN_add_of_next (k := 5) hpress, stepN_add_of_next (k := 3) hlost, stepN_idlePath hagain rfl rfl]
    simp [afterPress, hwake, hif]
  case D =>
    have hat := mainAt_afterPress htick htickIf hmpc
    have hdisarmed := step_sleepDisarmed hat rfl rfl
    have hagain : MainAt 0#4 { afterPress s with mpc := 0#4 } := ⟨rfl, htick, rfl, nofun, htickIf, rfl⟩
    rw [stepN_add_of_next (k := 5) hpress, stepN_succ_of_step 4 hdisarmed, stepN_powerUpPath hagain rfl rfl]
    simp [afterPress, hwake, hif]

/-! ### The TICK handler -/

/-- "TICK runs" is a matter of four flags. -/
theorem tickRuns_congr {s t : State} (hwake : t.inwake = s.inwake) (htick : t.intick = s.intick)
    (hif : t.wakeIf = s.wakeIf) (hie : t.wakeIe = s.wakeIe) : tickRuns t = tickRuns s := by
  simp [tickRuns, wakeDispatchable, level, hwake, htick, hif, hie]

/-- R112 to R115: latch, clear, select and drive. -/
theorem stepN_drive {s : State} (hat : TickAt 3#4 s) (ht : s.trace = []) (hdiv : s.fdiv = 0#16) :
    stepN 4 s = .next { s with
      lidx := channelOf s.n, lval := dataValue s.ledbm (channelOf s.n) s.pled,
      sel := 1#4 <<< (channelOf s.n).toNat, data := dataValue s.ledbm (channelOf s.n) s.pled, tpc := 7#4 } := by
  have hruns : tickRuns s = true ∧ s.tpc = 3#4 := by simpa using (tickRuns_at s 3#4).mpr hat
  obtain ⟨hruns, htpc⟩ := hruns
  have hen : EnabledInTurn [.tLatch, .tSelclr, .tSelset, .tData] s := by
    simp [EnabledInTurn, agentOf, enabled, effect, tickRuns_congr (s := s), hruns, htpc, latch_of_update hdiv]
  exact stepN_of_effects ht rfl hen (by simp [effects, effect, latch_of_update hdiv])

/-- R85, R86: below bit 4 the data value is the channel's nibble of the bitmap. -/
theorem dataValue_getLsbD_of_lt (bitmap : Word16) (channel : BitVec 2) (led : Bool) {d : Nat} (hd : d < 4) :
    (dataValue bitmap channel led).getLsbD d = bitmap.getLsbD (4 * channel.toNat + d) := by
  have hled : (if led then Params.pwrLedBit else 0#5).getLsbD d = false := by
    have h4 : d = 0 ∨ d = 1 ∨ d = 2 ∨ d = 3 := by omega
    rcases h4 with rfl | rfl | rfl | rfl <;> cases led <;> decide
  rw [dataValue, BitVec.getLsbD_or, hled, Bool.or_false, BitVec.getLsbD_setWidth, nibble_getLsbD _ _ _ hd]
  simp [show d < 5 by omega]

/-- R88: bit 4 of the data value is the power LED. -/
theorem dataValue_getLsbD_four (bitmap : Word16) (channel : BitVec 2) (led : Bool) :
    (dataValue bitmap channel led).getLsbD 4 = led := by
  have hnibble : ((nibble bitmap channel).setWidth 5).getLsbD 4 = false := by simp
  rw [dataValue, BitVec.getLsbD_or, hnibble, Bool.false_or]
  cases led <;> rfl

/-- R87: channel 3 has no LED. -/
theorem dataValue_low_of_channel_three {bitmap : Word16} {channel : BitVec 2} (led : Bool)
    (htop : bitmap.extractLsb' 12 4 = 0#4) (hchannel : channel.toNat = 3) :
    (dataValue bitmap channel led).extractLsb' 0 4 = 0#4 := by
  apply BitVec.eq_of_getLsbD_eq
  intro d hd
  have hbit := congrArg (BitVec.getLsbD · d) htop
  simp only [BitVec.getLsbD_extractLsb', hd, decide_true, Bool.true_and] at hbit
  simp [hd, dataValue_getLsbD_of_lt _ _ _ hd, hchannel, hbit]

/-- R69, R114: the shifted 1 selects its own line alone. -/
theorem shift_getLsbD : ∀ channel : BitVec 2, ∀ i < 4,
    (1#4 <<< channel.toNat).getLsbD i = decide (i = channel.toNat) := by decide

/-- The invariants leave one value of the divider counter, FACTOR being 1. -/
theorem fdiv_eq_zero {s : State} (h : SpecInv s) : s.fdiv = 0#16 := by
  have hlt := h.divider
  simp only [Params.factor] at hlt
  exact BitVec.eq_of_toNat_eq (by simpa using hlt)

/-- Settles O22: T_LATCH latches the data value, the next three operations drive it, and the bits of the data value are
those of the bitmap's nibble and PLED. -/
theorem dataLinesPresentBitmapBits : Obligations.DataLinesPresentBitmapBits := by
  intro s h hat
  have hdiv := fdiv_eq_zero h
  rw [← channelOf_toNat]
  have hlow (d : Nat) (hd : d < 4) := dataValue_getLsbD_of_lt s.ledbm (channelOf s.n) s.pled hd
  have hled := dataValue_getLsbD_four s.ledbm (channelOf s.n) s.pled
  have hthree := dataValue_low_of_channel_three (channel := channelOf s.n) s.pled h.topNibble
  refine ⟨⟨_, (exec_of_effect (enabled_tLatch s) (latch_of_update hdiv)).1 hat, hlow, hled, hthree⟩, fun ht => ?_⟩
  refine ⟨_, stepN_drive hat ht hdiv, rfl, shift_getLsbD _, hlow, hled, fun h3 => ⟨?_, hthree h3⟩⟩
  rw [h3]
  rfl

/-- R116, R117: from T_LATCH to the end of the handler. -/
theorem stepN_latchToReturn {s : State} (hat : TickAt 3#4 s) (ht : s.trace = []) (hdiv : s.fdiv = 0#16) {v : BitVec 5}
    (hv : v = BitVec.ofNat 5
      (((s.ledbm.toNat >>> (4 * (s.n.toNat % 4))) &&& 0xF) ||| (if s.pled then 0x10 else 0))) :
    stepN 6 s = .next { s with
      lidx := BitVec.ofNat 2 (s.n.toNat % 4), lval := v, sel := 1#4 <<< (s.n.toNat % 4), data := v,
      n := BitVec.ofNat 16 ((s.n.toNat + 1) % 1000), intick := false, tpc := 0#4 } := by
  have hdrive := stepN_drive hat ht hdiv
  rw [dataValue_eq_ofNat, channelOf_toNat, ← hv] at hdrive
  obtain ⟨hwake, htick, hno, -⟩ := hat
  have hen : EnabledInTurn [.tInc, .tRet] { s with
      lidx := channelOf s.n, lval := v, sel := 1#4 <<< (s.n.toNat % 4), data := v, tpc := 7#4 } := by
    refine ⟨by decide, (tickRuns_at _ 7#4).mpr ⟨hwake, htick, hno, rfl⟩, by decide, ?_, trivial⟩
    exact (tickRuns_at _ 8#4).mpr ⟨hwake, htick, hno, rfl⟩
  rw [stepN_add_of_next (k := 2) hdrive]
  refine stepN_of_effects ht rfl hen ?_
  simp [effects, effect, advance, hdiv, channelOf, nextN, nextFdiv, Params.factor, Params.nMod, Params.nCh, State.leave,
    State.tickTo]

/-! What the state machines read of each other and keep. -/

section
variable (p : Bool) (s : State)

@[simp] theorem animStep_preq : (animStep s).preq = s.preq := by rw [animStep_frame]
@[simp] theorem animStep_pcount : (animStep s).pcount = s.pcount := by rw [animStep_frame]
@[simp] theorem animStep_pled : (animStep s).pled = s.pled := by rw [animStep_frame]
@[simp] theorem animStep_n : (animStep s).n = s.n := by rw [animStep_frame]
@[simp] theorem animStep_fdiv : (animStep s).fdiv = s.fdiv := by rw [animStep_frame]
@[simp] theorem animStep_btn : (animStep s).btn = s.btn := by rw [animStep_frame]
@[simp] theorem animStep_wakeIe : (animStep s).wakeIe = s.wakeIe := by rw [animStep_frame]
@[simp] theorem animStep_wakeIf : (animStep s).wakeIf = s.wakeIf := by rw [animStep_frame]
@[simp] theorem animStep_inwake : (animStep s).inwake = s.inwake := by rw [animStep_frame]
@[simp] theorem animStep_trace : (animStep s).trace = s.trace := by rw [animStep_frame]
@[simp] theorem powerStep_n : (powerStep p s).n = s.n := by rw [powerStep_frame]
@[simp] theorem powerStep_fdiv : (powerStep p s).fdiv = s.fdiv := by rw [powerStep_frame]
@[simp] theorem powerStep_wakeIe : (powerStep p s).wakeIe = s.wakeIe := by rw [powerStep_frame]
@[simp] theorem powerStep_wakeIf : (powerStep p s).wakeIf = s.wakeIf := by rw [powerStep_frame]
@[simp] theorem powerStep_inwake : (powerStep p s).inwake = s.inwake := by rw [powerStep_frame]
@[simp] theorem powerStep_trace : (powerStep p s).trace = s.trace := by rw [powerStep_frame]

end

/-- The TICK handler under way at a position, as IRQ_TICK left the flags. -/
def tickContext (k : BitVec 4) (s : State) : State :=
  { s with tickIf := false, intick := true, sleeping := false, tpc := k }

/-- The state machines do not look at the handler's flags. -/
theorem animStep_tickContext (k : BitVec 4) (s : State) : animStep (tickContext k s) = tickContext k (animStep s) := by
  by_cases h0 : s.atimer = 0#16 <;> cases ha : s.astate <;> simp [animStep, animArm, tickContext, ha, h0]

theorem armPressed_tickContext (p : Bool) (k : BitVec 4) (s : State) :
    armPressed p (tickContext k s) = tickContext k (armPressed p s) := by
  by_cases h0 : decSat s.pcount = 0#16 <;> cases p <;> simp [armPressed, tickContext, h0]

theorem armReleased_tickContext (p : Bool) (k : BitVec 4) (s : State) :
    armReleased p (tickContext k s) = tickContext k (armReleased p s) := by
  by_cases h0 : decSat s.pcount = 0#16 <;> cases p <;> simp [armReleased, tickContext, h0]

theorem powerStep_tickContext (p : Bool) (k : BitVec 4) (s : State) :
    powerStep p (tickContext k s) = tickContext k (powerStep p s) := by
  have hctx : (tickContext k s).preq = s.preq := rfl
  cases hreq : s.preq with
  | none =>
    cases p with
    | false => rw [powerStep_none_released hreq, powerStep_none_released (hctx.trans hreq)]; rfl
    | true => rw [powerStep_none_pressed hreq, powerStep_none_pressed (hctx.trans hreq)]; rfl
  | buttonPressed =>
    rw [powerStep_pressed hreq, powerStep_pressed (hctx.trans hreq), armPressed_tickContext]
  | buttonPressedLong =>
    cases p with
    | false => rw [powerStep_long_released hreq, powerStep_long_released (hctx.trans hreq)]; rfl
    | true => rw [powerStep_long_pressed hreq, powerStep_long_pressed (hctx.trans hreq)]
  | buttonConfirmed => rw [powerStep_rests (.inl hreq), powerStep_rests (.inl (hctx.trans hreq))]
  | buttonReleased =>
    rw [powerStep_released hreq, powerStep_released (hctx.trans hreq), armReleased_tickContext]
  | powerDown => rw [powerStep_rests (.inr hreq), powerStep_rests (.inr (hctx.trans hreq))]
  | powerUp =>
    cases p with
    | false => rw [powerStep_powerUp_released hreq, powerStep_powerUp_released (hctx.trans hreq)]; rfl
    | true => rw [powerStep_powerUp_pressed hreq, powerStep_powerUp_pressed (hctx.trans hreq)]; rfl

theorem tickAt_tickContext {k : BitVec 4} {s : State} (hwake : s.inwake = false) (hno : ¬ WakePending s) :
    TickAt k (tickContext k s) := ⟨hwake, rfl, hno, rfl⟩

/-- R226, R111: in PowerDown the handler goes to T_LATCH at once. -/
theorem stepN_gate_of_powerDown {s : State} (htaken : TickTaken s) (ht : s.trace = []) (hreq : s.preq = .powerDown) :
    stepN 2 s = .next (tickContext 3#4 s) := by
  obtain ⟨-, -, hwake, hno⟩ := id htaken
  have hen : EnabledInTurn [.irqTick, .tGate] s :=
    ⟨by decide, (enabled_irqTick s).mpr htaken, by decide, (tickRuns_at _ 0#4).mpr (tickAt_tickContext hwake hno), trivial⟩
  have hgate : effect .tGate (tickContext 0#4 s) = tickContext 3#4 s := by
    simp [effect, tickContext, State.tickTo, hreq]
  exact stepN_of_effects ht rfl hen hgate

/-- R226, R111, R130, R150: otherwise both state machines step once on the way to T_LATCH. -/
theorem stepN_machines {s : State} (htaken : TickTaken s) (ht : s.trace = []) (hreq : s.preq ≠ .powerDown) :
    stepN 4 s = .next (tickContext 3#4 (powerStep (!s.btn) (animStep s))) := by
  obtain ⟨-, -, hwake, hno⟩ := id htaken
  have hgate : effect .tGate (tickContext 0#4 s) = tickContext 1#4 s := by
    simp [effect, tickContext, State.tickTo, hreq]
  have hanim : effect .tAnim (tickContext 1#4 s) = tickContext 2#4 (animStep s) := by
    rw [effect, animStep_tickContext]
    rfl
  have hpwr : effect .tPwr (tickContext 2#4 (animStep s)) =
      tickContext 3#4 (powerStep (!s.btn) (animStep s)) := by
    have hsample : pressed (tickContext 2#4 (animStep s)) = !s.btn := congrArg (!·) (animStep_btn s)
    rw [effect, powerStep_tickContext, hsample]
    rfl
  have hwake' : (animStep s).inwake = false := (animStep_inwake s).trans hwake
  have hno' : ¬ WakePending (animStep s) := by simpa [WakePending] using hno
  have ht' : (animStep s).trace = [] := (animStep_trace s).trans ht
  calc stepN 4 s
    _ = stepN 3 (tickContext 0#4 s) :=
      stepN_succ_of_effect (i := .irqTick) ht (by decide) ((enabled_irqTick s).mpr htaken) rfl
    _ = stepN 2 (tickContext 1#4 s) :=
      stepN_succ_of_effect (i := .tGate) ht (by decide) ((tickRuns_at _ 0#4).mpr (tickAt_tickContext hwake hno)) hgate
    _ = stepN 1 (tickContext 2#4 (animStep s)) :=
      stepN_succ_of_effect (i := .tAnim) ht (by decide) ((tickRuns_at _ 1#4).mpr (tickAt_tickContext hwake hno)) hanim
    _ = stepN 0 (tickContext 3#4 (powerStep (!s.btn) (animStep s))) :=
      stepN_succ_of_effect (i := .tPwr) ht' (by decide) ((tickRuns_at _ 2#4).mpr (tickAt_tickContext hwake' hno')) hpwr

/-- Settles O29: the way to T_LATCH with or without the state machines, then the way from it to the return. -/
theorem undisturbedTickRun : Obligations.UndisturbedTickRun := by
  intro s p v htaken ht hdiv hp hv
  obtain ⟨-, -, hwake, hno⟩ := id htaken
  by_cases hreq : s.preq = .powerDown
  · rw [if_pos hreq] at hp ⊢
    subst hp
    rw [stepN_add_of_next (j := 2) (k := 6) (stepN_gate_of_powerDown htaken ht hreq)]
    exact stepN_latchToReturn (tickAt_tickContext hwake hno) ht hdiv hv
  · rw [if_neg hreq] at hp ⊢
    rw [stepN_add_of_next (j := 4) (k := 6) (stepN_machines htaken ht hreq), ← hp]
    have hn : p.n = s.n := by simp [hp]
    have hat : TickAt 3#4 (tickContext 3#4 p) :=
      tickAt_tickContext (by simpa [hp] using hwake) (by simpa [hp, WakePending] using hno)
    rw [← hn] at hv ⊢
    exact stepN_latchToReturn hat (by simpa [hp, tickContext] using ht) (by simpa [hp, tickContext] using hdiv) hv

/-! ### The first steps after reset -/

/-- R263: the first quiescent state after reset. -/
def asleepAfterReset (w b : Bool) : State := { State.resetWith w b with se := true, sleeping := true }

theorem stepN_resetToSleep (w b : Bool) : stepN 3 (State.resetWith w b) = .next (asleepAfterReset w b) :=
  stepN_idlePath ⟨rfl, rfl, rfl, nofun, rfl, rfl⟩ rfl rfl

/-- Settles O16: MAIN's idle path, then a tick's run with the animation leaving Off and the button released, then the
idle path again. -/
theorem firstStepsAfterReset : Obligations.FirstStepsAfterReset := by
  refine ⟨stepN_resetToSleep, fun w => ?_⟩
  have htick : step { asleepAfterReset w true with trace := [encode .evTick] } =
      .next { asleepAfterReset w true with tickIf := true } :=
    (step_cons rfl (decode_encode _)).trans (exec_evTick _)
  have hmachines : powerStep false (animStep { asleepAfterReset w true with tickIf := true }) =
      { asleepAfterReset w true with
        tickIf := true, atimer := 14999#16, ledbm := 0x050A#16, astate := .state1, pled := false } := by
    rw [animStep_off rfl, powerStep_none_released rfl]
  have hvalue : 0x0A#5 = BitVec.ofNat 5
      ((((0x050A#16).toNat >>> (4 * ((0#16).toNat % 4))) &&& 0xF) ||| (if false then 0x10 else 0)) := by decide
  have hrun := undisturbedTickRun { asleepAfterReset w true with tickIf := true } _ 0x0A#5 ⟨rfl, rfl, rfl, nofun⟩
    rfl rfl hmachines.symm hvalue
  refine ⟨_, (stepN_succ_of_step 13 htick).trans ((stepN_add_of_next (j := 10) (k := 3) hrun).trans
    (stepN_idlePath ⟨rfl, rfl, rfl, nofun, rfl, rfl⟩ rfl rfl)), ?_⟩
  exact ⟨rfl, rfl, rfl, rfl, rfl, rfl, rfl, rfl, rfl, nofun, rfl⟩

end Sys2Proof.Proofs
end

section
/-! PROOFS of the statements over many ticks: the FACTOR divider (spec/40_tick_multiplexer.md R119), the animation's
timeline (spec/41_animation_sm.md R140) and the debounce counts (spec/42_power_sm.md R159). -/

namespace Sys2Proof.Proofs

open Sys2Proof.Machine
open Sys2Proof.Laws

/-! ### The divider -/

theorem ofNat_eq_zero_iff {k : Nat} (h : k < 65536) : BitVec.ofNat 16 k = 0#16 ↔ k = 0 := by
  rw [← BitVec.toNat_inj, BitVec.toNat_ofNat, BitVec.toNat_ofNat, Nat.mod_eq_of_lt h, Nat.zero_mod]

/-- R116: on the first tick of FACTOR the counter N moves. -/
theorem advance_of_zero {factor : Nat} {s : State} (h : s.fdiv = 0#16) :
    advance factor s = { s with n := BitVec.ofNat 16 ((s.n.toNat + 1) % 1000), fdiv := BitVec.ofNat 16 (1 % factor) } := by
  simp [advance, h, nextN, nextFdiv, Params.nMod]

/-- R116: on the other ticks only FDIV moves. -/
theorem advance_of_counting {factor k : Nat} {s : State} (h0 : k ≠ 0) (h : k < 65536)
    (hdiv : s.fdiv = BitVec.ofNat 16 k) : advance factor s = { s with fdiv := BitVec.ofNat 16 ((k + 1) % factor) } := by
  have hne : s.fdiv ≠ 0#16 := fun hz => h0 ((ofNat_eq_zero_iff h).mp (hdiv.symm.trans hz))
  have hnat : s.fdiv.toNat = k := by rw [hdiv, BitVec.toNat_ofNat, Nat.mod_eq_of_lt h]
  rw [advance, if_neg hne, nextFdiv, hnat]

theorem iterate_advance {factor k : Nat} {s : State} (hfactor : factor ≤ 65536) (hdiv : s.fdiv = 0#16) (h1 : 1 ≤ k)
    (hk : k ≤ factor) :
    (advance factor)^[k] s =
      { s with n := BitVec.ofNat 16 ((s.n.toNat + 1) % 1000), fdiv := BitVec.ofNat 16 (k % factor) } := by
  induction k, h1 using Nat.le_induction with
  | base => exact advance_of_zero hdiv
  | succ k h1 ih =>
    have hmod : k % factor = k := Nat.mod_eq_of_lt hk
    rw [Function.iterate_succ_apply', ih (Nat.le_of_lt hk), hmod]
    exact advance_of_counting (Nat.ne_of_gt h1) (by omega) rfl

/-- Settles O28: after `k` ticks FDIV is `k % FACTOR`, which is 0 only for `k = FACTOR`. -/
theorem factorDividesTheUpdates : Obligations.FactorDividesTheUpdates := by
  intro factor k s hwf hdiv h1 hk
  obtain ⟨-, hfactor⟩ : 1 ≤ factor ∧ factor ≤ 65536 := by simpa [factorWellFormed] using hwf
  refine ⟨_, rfl, iterate_advance hfactor hdiv h1 hk, fun hlt => ?_, fun heq => ?_⟩
  · rw [iterate_advance hfactor hdiv h1 hk]
    refine latch_of_skip ?_
    rw [Nat.mod_eq_of_lt hlt]
    exact fun h0 => Nat.ne_of_gt h1 ((ofNat_eq_zero_iff (by omega)).mp h0)
  · rw [iterate_advance hfactor hdiv h1 hk]
    refine latch_eq_of_update ?_
    rw [heq, Nat.mod_self]

/-! ### The animation -/

/-- A state at a point of the animation's timeline. -/
def animAt (a : AnimationState) (timer bitmap : Word16) (s : State) : State :=
  { s with astate := a, atimer := timer, ledbm := bitmap }

/-- R132 to R138: while the timer runs, it counts down, and only the blinking states write the bitmap. -/
theorem animStep_counts {a : AnimationState} {timer : Word16} (bitmap : Word16) (s : State) (ha : a ≠ .off)
    (h0 : timer ≠ 0#16) :
    ∃ bitmap', (a ∈ [AnimationState.state1, .state3, .state4, .state6] → bitmap' = bitmap) ∧
      animStep (animAt a timer bitmap s) = animAt a (timer - 1#16) bitmap' s := by
  cases a with
  | off => exact absurd rfl ha
  | state2 => exact ⟨_, by simp, animStep_state2_of_ne (s := animAt .state2 timer bitmap s) rfl h0⟩
  | state5 => exact ⟨_, by simp, animStep_state5_of_ne (s := animAt .state5 timer bitmap s) rfl h0⟩
  | state1 | state3 | state4 | state6 =>
    exact ⟨bitmap, fun _ => rfl, animStep_of_hold (s := animAt _ timer bitmap s) (by simp [animAt]) h0⟩

/-- The timer runs out. -/
theorem iterate_animStep_of_timer {a : AnimationState} {timer : Word16} {ticks : Nat} (bitmap : Word16) (s : State)
    (ha : a ≠ .off) (ht : timer.toNat = ticks) :
    ∃ bitmap', (a ∈ [AnimationState.state1, .state3, .state4, .state6] → bitmap' = bitmap) ∧
      animStep^[ticks] (animAt a timer bitmap s) = animAt a 0#16 bitmap' s := by
  induction ticks generalizing timer bitmap with
  | zero =>
    obtain rfl : timer = 0#16 := BitVec.eq_of_toNat_eq ht
    exact ⟨bitmap, fun _ => rfl, rfl⟩
  | succ ticks ih =>
    have h0 : timer ≠ 0#16 := by rintro rfl; simp at ht
    have hdec : (timer - 1#16).toNat = ticks := by
      have := decSat_toNat timer
      rw [decSat_of_ne h0] at this
      omega
    obtain ⟨bitmap1, hkeep1, hstep⟩ := animStep_counts bitmap s ha h0
    obtain ⟨bitmap2, hkeep2, hrest⟩ := ih bitmap1 hdec
    refine ⟨bitmap2, fun hhold => (hkeep2 hhold).trans (hkeep1 hhold), ?_⟩
    rw [Function.iterate_succ_apply, hstep, hrest]

/-- One state of the animation without a blink, from its first tick to the first of the next. -/
theorem iterate_animStep_hold {a : AnimationState} {timer bitmap : Word16} {ticks : Nat} {s t : State}
    (ha : a ∈ [AnimationState.state1, .state3, .state4, .state6]) (ht : timer.toNat = ticks)
    (hend : animStep (animAt a 0#16 bitmap s) = t) : animStep^[ticks + 1] (animAt a timer bitmap s) = t := by
  have hoff : a ≠ .off := by rintro rfl; simp at ha
  obtain ⟨_, hkeep, hzero⟩ := iterate_animStep_of_timer bitmap s hoff ht
  rw [Function.iterate_succ_apply', hzero, hkeep ha, hend]

/-- One blinking state: the next state's bitmap does not depend on the last blink. -/
theorem iterate_animStep_blink {a : AnimationState} {timer bitmap : Word16} {ticks : Nat} {s t : State}
    (ha : a ≠ .off) (ht : timer.toNat = ticks) (hend : ∀ b, animStep (animAt a 0#16 b s) = t) :
    animStep^[ticks + 1] (animAt a timer bitmap s) = t := by
  obtain ⟨bitmap', -, hzero⟩ := iterate_animStep_of_timer bitmap s ha ht
  rw [Function.iterate_succ_apply', hzero, hend]

theorem iterate_animStep_add {j k : Nat} {s t u : State} (hj : animStep^[j] s = t) (hk : animStep^[k] t = u) :
    animStep^[j + k] s = u := by
  rw [Nat.add_comm, Function.iterate_add_apply, hj, hk]

/-- R140: the states of the timeline, whole. -/
theorem animation_timeline {s : State} (ha : s.astate = .off) :
    animStep s = animAt .state1 14999#16 0x050A#16 s ∧
    animStep^[15000] s = animAt .state1 0#16 0x050A#16 s ∧
    animStep^[15001] s = animAt .state2 3999#16 0x050A#16 s ∧
    animStep^[19001] s = animAt .state3 2999#16 0x05A0#16 s ∧
    animStep^[22001] s = animAt .state4 14999#16 0x0A05#16 s ∧
    animStep^[37001] s = animAt .state5 3999#16 0x0A05#16 s ∧
    animStep^[41001] s = animAt .state6 2999#16 0x0A50#16 s ∧
    animStep^[44001] s = animAt .off 0#16 0x0A50#16 s := by
  have h1 : animStep s = animAt .state1 14999#16 0x050A#16 s := animStep_off ha
  have h15000 : animStep^[1 + 14999] s = animAt .state1 0#16 0x050A#16 s := by
    obtain ⟨_, hkeep, hzero⟩ := iterate_animStep_of_timer (timer := 14999#16) 0x050A#16 s
      (show AnimationState.state1 ≠ .off by decide) rfl
    rw [hkeep (by decide)] at hzero
    exact iterate_animStep_add (j := 1) h1 hzero
  have h15001 : animStep^[1 + 15000] s = animAt .state2 3999#16 0x050A#16 s :=
    iterate_animStep_add (j := 1) h1 (iterate_animStep_hold (by decide) rfl (animStep_state1_of_zero rfl rfl))
  have h19001 : animStep^[15001 + 4000] s = animAt .state3 2999#16 0x05A0#16 s :=
    iterate_animStep_add h15001
      (iterate_animStep_blink (by decide) rfl fun _ => animStep_state2_of_zero rfl rfl)
  have h22001 : animStep^[19001 + 3000] s = animAt .state4 14999#16 0x0A05#16 s :=
    iterate_animStep_add h19001 (iterate_animStep_hold (by decide) rfl (animStep_state3_of_zero rfl rfl))
  have h37001 : animStep^[22001 + 15000] s = animAt .state5 3999#16 0x0A05#16 s :=
    iterate_animStep_add h22001 (iterate_animStep_hold (by decide) rfl (animStep_state4_of_zero rfl rfl))
  have h41001 : animStep^[37001 + 4000] s = animAt .state6 2999#16 0x0A50#16 s :=
    iterate_animStep_add h37001
      (iterate_animStep_blink (by decide) rfl fun _ => animStep_state5_of_zero rfl rfl)
  have h44001 : animStep^[41001 + 3000] s = animAt .off 0#16 0x0A50#16 s :=
    iterate_animStep_add h41001 (iterate_animStep_hold (by decide) rfl (animStep_state6_of_zero rfl rfl))
  exact ⟨h1, h15000, h15001, h19001, h22001, h37001, h41001, h44001⟩

/-- R140: in Off the step does not look at ATIMER or LEDBM, so after a period the first step repeats. -/
theorem animation_period {s : State} (ha : s.astate = .off) {k : Nat} (hk : 1 ≤ k) :
    animStep^[k + 44001] s = animStep^[k] s := by
  obtain ⟨h1, -, -, -, -, -, -, hcycle⟩ := animation_timeline ha
  obtain ⟨j, rfl⟩ : ∃ j, k = j + 1 := ⟨k - 1, by omega⟩
  have hfirst : animStep (animAt .off 0#16 0x0A50#16 s) = animStep s :=
    (animStep_off (s := animAt .off 0#16 0x0A50#16 s) rfl).trans h1.symm
  rw [Function.iterate_add_apply, hcycle, Function.iterate_succ_apply, hfirst, ← Function.iterate_succ_apply]

/-- Settles O33: the triple is read off the states of the timeline. -/
theorem animationCycleRepeats : Obligations.AnimationCycleRepeats := by
  intro s ha
  obtain ⟨h1, h15000, h15001, h19001, h22001, h37001, h41001, h44001⟩ := animation_timeline ha
  refine ⟨fun k => ((animStep^[k] s).astate, (animStep^[k] s).atimer, (animStep^[k] s).ledbm), fun _ => rfl, ?_⟩
  simp only [Function.iterate_one, h1, h15000, h15001, h19001, h22001, h37001, h41001, h44001]
  exact ⟨rfl, rfl, rfl, rfl, rfl, rfl, rfl, rfl, fun k hk => by rw [animation_period ha hk]⟩

/-! ### The debounce counts -/

section
variable {s : State}

/-- One sample of a countdown that goes on. -/
theorem ofNat_countdown {k : Nat} (hk : k + 1 ≤ 3999) :
    2 ≤ (BitVec.ofNat 16 (4000 - k)).toNat ∧ BitVec.ofNat 16 (4000 - k) - 1#16 = BitVec.ofNat 16 (4000 - (k + 1)) := by
  have hnat (j : Nat) : (BitVec.ofNat 16 (4000 - j)).toNat = 4000 - j := by
    rw [BitVec.toNat_ofNat]
    omega
  refine ⟨by rw [hnat]; omega, BitVec.eq_of_toNat_eq ?_⟩
  rw [BitVec.toNat_sub, hnat, hnat]
  simp
  omega

/-- R151, R152: up to 3999 pressed samples. -/
theorem iterate_press_counting (hreq : s.preq = .none) {p : Nat} (h1 : 1 ≤ p) (hp : p ≤ 3999) :
    (powerStep true)^[p] s = { s with preq := .buttonPressed, pcount := BitVec.ofNat 16 (4000 - p) } := by
  induction p, h1 using Nat.le_induction with
  | base => exact powerStep_none_pressed hreq
  | succ p h1 ih =>
    obtain ⟨hcount, hdec⟩ := ofNat_countdown hp
    rw [Function.iterate_succ_apply', ih (by omega), powerStep_pressed rfl, armPressed_of_pressed hcount]
    simp only [hdec]

/-- R152: the 4000th pressed sample, and every later one. -/
theorem iterate_press_long (hreq : s.preq = .none) {p : Nat} (hp : 4000 ≤ p) :
    (powerStep true)^[p] s = { s with preq := .buttonPressedLong, pcount := 0#16, pled := true } := by
  induction p, hp using Nat.le_induction with
  | base =>
    rw [Function.iterate_succ_apply', iterate_press_counting hreq (by decide) (by decide), powerStep_pressed rfl,
      armPressed_of_last (show (BitVec.ofNat 16 (4000 - 3999)).toNat ≤ 1 by decide)]
  | succ p hp ih => rw [Function.iterate_succ_apply', ih, powerStep_long_pressed rfl]

/-- R153, R155: up to 3999 released samples. -/
theorem iterate_release_counting (hreq : s.preq = .buttonPressedLong) {r : Nat} (h1 : 1 ≤ r) (hr : r ≤ 3999) :
    (powerStep false)^[r] s = { s with preq := .buttonReleased, pcount := BitVec.ofNat 16 (4000 - r) } := by
  induction r, h1 using Nat.le_induction with
  | base => exact powerStep_long_released hreq
  | succ r h1 ih =>
    obtain ⟨hcount, hdec⟩ := ofNat_countdown hr
    rw [Function.iterate_succ_apply', ih (by omega), powerStep_released rfl, armReleased_of_released hcount]
    simp only [hdec]

/-- R155: the 4000th released sample, and every later one. -/
theorem iterate_release_down (hreq : s.preq = .buttonPressedLong) {r : Nat} (hr : 4000 ≤ r) :
    (powerStep false)^[r] s =
      { s with preq := .powerDown, pcount := 0#16, pled := false, ledbm := 0x0000#16 } := by
  induction r, hr using Nat.le_induction with
  | base =>
    rw [Function.iterate_succ_apply', iterate_release_counting hreq (by decide) (by decide), powerStep_released rfl,
      armReleased_of_last (show (BitVec.ofNat 16 (4000 - 3999)).toNat ≤ 1 by decide)]
    rfl
  | succ r hr ih => rw [Function.iterate_succ_apply', ih, powerStep_rests (.inr rfl)]

end

/-- Settles O37: both countdowns take 4000 samples, and a sample of the other level before that aborts. -/
theorem debounceCountsAreFourThousand : Obligations.DebounceCountsAreFourThousand := by
  intro s p r hreq hled
  refine ⟨fun h1 hp => ?_, fun hp => ?_⟩
  · rw [iterate_press_counting hreq h1 hp, powerStep_pressed rfl, armPressed_released]
    exact ⟨rfl, hled, rfl, rfl, hled⟩
  · rw [iterate_press_long hreq hp]
    refine ⟨rfl, rfl, fun h1 hr => ?_, fun hr => ?_⟩
    · rw [iterate_release_counting rfl h1 hr, powerStep_released rfl, armReleased_pressed]
      exact ⟨rfl, rfl, rfl, rfl⟩
    · rw [iterate_release_down rfl hr]
      exact ⟨rfl, rfl, rfl⟩

end Sys2Proof.Proofs
end

section
/-! PROOFS of the family spec/44_events_edge_detector.md R206, R207: the bound of 41 steps until the block is quiescent. -/

namespace Sys2Proof.Proofs

open Sys2Proof.Machine
open Sys2Proof.Laws
open Sys2Proof.Safety (WakePending MainAt TickAt WakeAt TickTaken WakeTaken SpecInv Quiescent)

/-! ### Steps left until the block is quiescent -/

/-- The most MAIN steps until the core halts, with no interrupt to come. At position 5, 6 or 9 with SE clear M_SLEEP does
not halt the core, and MAIN goes round once more. -/
def mainStepsLeft (s : State) : Nat :=
  if s.sleeping then 0
  else
    match s.mpc.toNat with
    | 0 => 7
    | 1 => 6
    | 2 => 5
    | 3 => 4
    | 4 => 3
    | 5 => if s.se then 2 else 9
    | 6 => if s.se then 1 else 8
    | 7 => 3
    | 8 => 2
    | 9 => if s.se then 1 else 8
    | _ => 0

/-- An upper bound on the steps until the block is quiescent: the handlers' positions left, a dispatch and a handler's
run for each pending interrupt, and MAIN's steps. While a handler has yet to run, MAIN's share is its largest. -/
def stepsLeft (s : State) : Nat :=
  (bif s.inwake then 7 - s.wpc.toNat else bif s.wakeIf then 8 else 0) + (bif s.intick then 9 - s.tpc.toNat else 0) +
    (bif s.tickIf then 10 else 0) +
    (bif s.inwake || s.wakeIf || s.intick || s.tickIf then 9 else mainStepsLeft s)

theorem mainStepsLeft_le (s : State) : mainStepsLeft s ≤ 9 := by
  unfold mainStepsLeft
  repeat' split
  all_goals decide

/-- MAIN's share of the bound is at most 9 in any case. -/
theorem mainShare_le (busy : Bool) (s : State) : (bif busy then 9 else mainStepsLeft s) ≤ 9 := by
  cases busy with
  | true => exact Nat.le_refl 9
  | false => exact mainStepsLeft_le s

theorem stepsLeft_le (s : State) : stepsLeft s ≤ 36 := by
  have := mainShare_le (s.inwake || s.wakeIf || s.intick || s.tickIf) s
  have hwake : (bif s.inwake then 7 - s.wpc.toNat else bif s.wakeIf then 8 else 0) ≤ 8 := by
    cases s.inwake <;> cases s.wakeIf <;> simp only [cond_true, cond_false] <;> omega
  have htick : (bif s.intick then 9 - s.tpc.toNat else 0) ≤ 9 := by
    cases s.intick <;> simp only [cond_true, cond_false] <;> omega
  have htif : (bif s.tickIf then 10 else 0) ≤ 10 := by cases s.tickIf <;> decide
  unfold stepsLeft
  omega

section
variable {s t : State}

/-- In the TICK handler a later position leaves fewer steps. -/
theorem stepsLeft_lt_of_tick (htick : s.intick = true) (hwake : t.inwake = s.inwake) (hwpc : t.wpc = s.wpc)
    (hif : t.wakeIf = s.wakeIf) (hin : t.intick = s.intick) (htif : t.tickIf = s.tickIf)
    (hpos : s.tpc.toNat < t.tpc.toNat) (hle : t.tpc.toNat ≤ 8) : stepsLeft t < stepsLeft s := by
  simp only [stepsLeft, hwake, hwpc, hif, hin, htif, htick, Bool.or_true, Bool.true_or, cond_true]
  omega

/-- In the WAKE handler a later position leaves fewer steps, whatever becomes of WAKE_IF. -/
theorem stepsLeft_lt_of_wake (hwake : s.inwake = true) (hin : t.inwake = s.inwake) (htick : t.intick = s.intick)
    (htpc : t.tpc = s.tpc) (htif : t.tickIf = s.tickIf) (hpos : s.wpc.toNat < t.wpc.toNat) (hle : t.wpc.toNat ≤ 6) :
    stepsLeft t < stepsLeft s := by
  simp only [stepsLeft, hin, htick, htpc, htif, hwake, Bool.true_or, cond_true]
  omega

/-- Where MAIN runs, the steps left are MAIN's. -/
theorem stepsLeft_of_main (hwake : s.inwake = false) (hif : s.wakeIf = false) (htick : s.intick = false)
    (htif : s.tickIf = false) : stepsLeft s = mainStepsLeft s := by
  simp [stepsLeft, hwake, hif, htick, htif]

theorem stepsLeft_lt_of_main (hs : s.inwake = false ∧ s.wakeIf = false ∧ s.intick = false ∧ s.tickIf = false)
    (ht : t.inwake = false ∧ t.wakeIf = false ∧ t.intick = false ∧ t.tickIf = false)
    (hlt : mainStepsLeft t < mainStepsLeft s) : stepsLeft t < stepsLeft s := by
  obtain ⟨hwake, hif, htick, htif⟩ := hs
  obtain ⟨hwake', hif', htick', htif'⟩ := ht
  rwa [stepsLeft_of_main hwake hif htick htif, stepsLeft_of_main hwake' hif' htick' htif']

/-- Under the invariants a pending edge is dispatchable (R46 (d)). -/
theorem wakeIf_of_not_pending (h : SpecInv s) (hno : ¬ WakePending s) : s.wakeIf = false := by
  cases hif : s.wakeIf with
  | false => rfl
  | true => exact absurd ⟨hif, h.wakeGated hif⟩ hno

theorem stepsLeft_irqWake (htaken : WakeTaken s) : stepsLeft (effect .irqWake s) < stepsLeft s := by
  obtain ⟨hif, -, hwake⟩ := htaken
  simp [stepsLeft, effect, hif, hwake]

theorem stepsLeft_irqTick (h : SpecInv s) (htaken : TickTaken s) : stepsLeft (effect .irqTick s) < stepsLeft s := by
  obtain ⟨htif, htick, hwake, hno⟩ := htaken
  simp [stepsLeft, effect, htif, htick, hwake, wakeIf_of_not_pending h hno]

theorem stepsLeft_tick (h : SpecInv s) {i : Instr} (hi : agentOf i = .tick) (hen : enabled i s = true) :
    stepsLeft (effect i s) < stepsLeft s := by
  obtain ⟨hwake, htick, hno, -⟩ := tickAt_of_enabled hi hen
  have hif := wakeIf_of_not_pending h hno
  obtain ⟨-, hpos⟩ := (enabled_tick_iff hi s).mp hen
  cases i with
  | tRet =>
    have hmain := mainShare_le s.tickIf (effect .tRet s)
    have htpc : s.tpc.toNat = _ := List.mem_singleton.mp hpos
    simp [stepsLeft, effect, hwake, hif, htick, htpc] at hmain ⊢
    omega
  | tGate =>
    have htpc : s.tpc.toNat = _ := List.mem_singleton.mp hpos
    refine stepsLeft_lt_of_tick htick rfl rfl rfl rfl rfl ?_ ?_ <;> by_cases hreq : s.preq = .powerDown <;>
      simp [effect, htpc, hreq]
  | tAnim =>
    have htpc : s.tpc.toNat = _ := List.mem_singleton.mp hpos
    obtain ⟨a, timer, bitmap, hwrites⟩ := animStep_writes s
    refine stepsLeft_lt_of_tick htick ?_ ?_ ?_ ?_ ?_ ?_ ?_ <;> simp [effect, hwrites, htpc]
  | tPwr =>
    have htpc : s.tpc.toNat = _ := List.mem_singleton.mp hpos
    obtain ⟨r, count, led, bitmap, hwrites⟩ := powerStep_writes (pressed s) s
    refine stepsLeft_lt_of_tick htick ?_ ?_ ?_ ?_ ?_ ?_ ?_ <;> simp [effect, hwrites, htpc]
  | tLatch =>
    have htpc : s.tpc.toNat = _ := List.mem_singleton.mp hpos
    have heffect : effect .tLatch s = _ := latch_of_update (fdiv_eq_zero h)
    refine stepsLeft_lt_of_tick htick ?_ ?_ ?_ ?_ ?_ ?_ ?_ <;> simp [heffect, htpc]
  | tSelclr | tSelset | tData | tInc =>
    have htpc : s.tpc.toNat = _ := List.mem_singleton.mp hpos
    refine stepsLeft_lt_of_tick htick rfl rfl rfl rfl rfl ?_ ?_ <;> simp [effect, htpc]
  | _ => cases hi

theorem stepsLeft_wake (h : SpecInv s) {i : Instr} (hi : agentOf i = .wake) (hen : enabled i s = true) :
    stepsLeft (effect i s) < stepsLeft s := by
  obtain ⟨hwake, hpos⟩ := (enabled_wake_iff hi s).mp hen
  simp only [wakeRuns] at hwake
  cases i with
  | wRet =>
    have hmain := mainShare_le (s.intick || s.tickIf) (effect .wRet s)
    have hif : s.wakeIf = false := by
      have hie : s.wakeIe = false := h.wakeDisabled hwake (by intro h0; simp [tablePositions, h0] at hpos)
      cases hif : s.wakeIf with
      | false => rfl
      | true => exact absurd (h.wakeGated hif) (by simp [hie])
    have hwpc : s.wpc.toNat = _ := List.mem_singleton.mp hpos
    simp [stepsLeft, effect, hwake, hif, hwpc] at hmain ⊢
    omega
  | wWieOff | wModeIdle | wSeOff | wLedOn | wReqUp | wAnimOff =>
    have hwpc : s.wpc.toNat = _ := List.mem_singleton.mp hpos
    refine stepsLeft_lt_of_wake hwake rfl rfl rfl rfl ?_ ?_ <;> simp [effect, hwpc]
  | _ => cases hi

theorem stepsLeft_main (h : SpecInv s) {i : Instr} (hi : agentOf i = .main) (hen : enabled i s = true) :
    stepsLeft (effect i s) < stepsLeft s := by
  obtain ⟨hwake, htick, hsleep, hno, htif, -⟩ := mainAt_of_enabled hi hen
  obtain ⟨-, hpos⟩ := (enabled_main_iff hi s).mp hen
  have hflags : s.inwake = false ∧ s.wakeIf = false ∧ s.intick = false ∧ s.tickIf = false :=
    ⟨hwake, wakeIf_of_not_pending h hno, htick, htif⟩
  cases i with
  | mChk =>
    refine stepsLeft_lt_of_main hflags hflags ?_
    have hmpc : s.mpc.toNat = _ := List.mem_singleton.mp hpos
    cases hreq : s.preq <;> simp [mainStepsLeft, effect, mainBranch, hreq, hsleep, hmpc]
  | mArm | mSleep =>
    refine stepsLeft_lt_of_main hflags hflags ?_
    have hmpc : s.mpc.toNat = _ ∨ s.mpc.toNat = _ := List.mem_pair.mp hpos
    rcases hmpc with hmpc | hmpc <;> cases hse : s.se <;> simp [mainStepsLeft, effect, hsleep, hse, hmpc]
  | mReqNone =>
    refine stepsLeft_lt_of_main hflags hflags ?_
    have hmpc : s.mpc.toNat = _ := List.mem_singleton.mp hpos
    cases hse : s.se <;> simp [mainStepsLeft, effect, hsleep, hse, hmpc]
  | mBlank | mWieOn | mModeDeep | mLedOn =>
    refine stepsLeft_lt_of_main hflags hflags ?_
    have hmpc : s.mpc.toNat = _ := List.mem_singleton.mp hpos
    simp [mainStepsLeft, effect, State.blankPort, State.mainTo, hsleep, hmpc]
  | _ => cases hi

/-- Every operation of the block brings it nearer to quiescence. -/
theorem stepsLeft_effect (h : SpecInv s) {i : Instr} (hi : agentOf i ≠ .environment) (hen : enabled i s = true) :
    stepsLeft (effect i s) < stepsLeft s := by
  cases hagent : agentOf i with
  | environment => exact absurd hagent hi
  | main => exact stepsLeft_main h hagent hen
  | tick => exact stepsLeft_tick h hagent hen
  | wake => exact stepsLeft_wake h hagent hen
  | arbiter =>
    cases i with
    | irqWake => exact stepsLeft_irqWake ((enabled_irqWake s).mp hen)
    | irqTick => exact stepsLeft_irqTick h ((enabled_irqTick s).mp hen)
    | _ => cases hagent

/-! ### Progress -/

/-! No position of a sequence table is empty (R82 to R84). -/

theorem exists_main_at : ∀ k : BitVec 4, k.toNat ≤ 9 →
    ∃ i ∈ ([.mChk, .mBlank, .mWieOn, .mModeDeep, .mArm, .mReqNone, .mSleep, .mLedOn] : List Instr),
      agentOf i = .main ∧ k.toNat ∈ tablePositions i := by decide

theorem exists_tick_at : ∀ k : BitVec 4, k.toNat ≤ 8 →
    ∃ i ∈ ([.tGate, .tAnim, .tPwr, .tLatch, .tSelclr, .tSelset, .tData, .tInc, .tRet] : List Instr),
      agentOf i = .tick ∧ k.toNat ∈ tablePositions i := by decide

theorem exists_wake_at : ∀ k : BitVec 3, k.toNat ≤ 6 →
    ∃ i ∈ ([.wWieOff, .wModeIdle, .wSeOff, .wLedOn, .wReqUp, .wAnimOff, .wRet] : List Instr),
      agentOf i = .wake ∧ k.toNat ∈ tablePositions i := by decide

/-- Under the invariants the block can go on or is quiescent: no counter is outside its table. -/
theorem enabled_or_quiescent (h : SpecInv s) :
    (∃ i, agentOf i ≠ .environment ∧ enabled i s = true) ∨ Quiescent s := by
  rcases arbiter_cases s with htaken | htaken | hruns | hruns | hruns | hquiet
  · exact .inl ⟨.irqWake, by decide, (enabled_irqWake s).mpr htaken⟩
  · exact .inl ⟨.irqTick, by decide, (enabled_irqTick s).mpr htaken⟩
  · obtain ⟨i, -, hi, hpos⟩ := exists_wake_at s.wpc h.wakePosition
    exact .inl ⟨i, by simp [hi], (enabled_wake_iff hi s).mpr ⟨hruns, hpos⟩⟩
  · obtain ⟨i, -, hi, hpos⟩ := exists_tick_at s.tpc h.tickPosition
    exact .inl ⟨i, by simp [hi], (enabled_tick_iff hi s).mpr ⟨hruns, hpos⟩⟩
  · obtain ⟨i, -, hi, hpos⟩ := exists_main_at s.mpc h.mainPosition
    exact .inl ⟨i, by simp [hi], (enabled_main_iff hi s).mpr ⟨hruns, hpos⟩⟩
  · exact .inr hquiet

/-- A quiescent block with no event to come waits. -/
theorem stepN_of_quiescent (hquiet : Quiescent s) (ht : s.trace = []) (k : Nat) : stepN k s = .next s := by
  obtain ⟨-, hwaits⟩ := quiescentStateWaits s
  induction k with
  | zero => rfl
  | succ k ih => rw [stepN_succ_of_step k (hwaits hquiet ht), ih]

end

theorem stepN_reaches_quiescent (k : Nat) {s : State} (h : SpecInv s) (ht : s.trace = []) (hk : stepsLeft s ≤ k) :
    ∃ t, stepN k s = .next t ∧ Quiescent t := by
  induction k generalizing s with
  | zero =>
    rcases enabled_or_quiescent h with ⟨i, hi, hen⟩ | hquiet
    · have := stepsLeft_effect h hi hen
      omega
    · exact ⟨s, rfl, hquiet⟩
  | succ k ih =>
    rcases enabled_or_quiescent h with ⟨i, hi, hen⟩ | hquiet
    · rw [stepN_succ_of_effect ht hi hen rfl]
      have := stepsLeft_effect h hi hen
      exact ih (specInv_effect h hen) ((effect_trace i s).trans ht) (by omega)
    · exact ⟨s, stepN_of_quiescent hquiet ht _, hquiet⟩

/-- Settles O56: each step before quiescence lowers a bound that is at most 36. -/
theorem quiescentWithinFortyOneSteps : Obligations.QuiescentWithinFortyOneSteps := fun s h ht =>
  stepN_reaches_quiescent 41 h ht ((stepsLeft_le s).trans (by decide))

end Sys2Proof.Proofs
end

section
/-! PROOFS of the family spec/60_exceptions.md R241 and spec/70_reset_and_hazards.md R264: the stuck states, and the first
press after reset. -/

namespace Sys2Proof.Proofs

open Sys2Proof.Machine
open Sys2Proof.Laws
open Sys2Proof.Safety (WakePending MainAt TickTaken WakeTaken Quiescent Stuck isInput AwakenedBy)

/-! ### The stuck states -/

/-- R241: the line may move. -/
theorem stuck_with_btn {s : State} (h : Stuck s) (level : Bool) (trace : List Byte) :
    Stuck { s with btn := level, trace := trace } := by
  obtain ⟨⟨hsleep, htick, hwake, hno, htif⟩, hdeep, hie⟩ := h
  exact ⟨⟨hsleep, htick, hwake, hno, htif⟩, hdeep, hie⟩

/-- R202, R204, R241: a tick is discarded in deep sleep, and with the wake line disabled the line moves without an
edge. -/
theorem exec_input_of_stuck {s : State} (h : Stuck s) {e : Instr} (he : isInput e = true) :
    ∃ level, exec e s = .next { s with btn := level } := by
  obtain ⟨⟨hsleep, -⟩, hdeep, hie⟩ := h
  cases e with
  | evTick =>
    refine ⟨s.btn, ?_⟩
    rw [exec_evTick, tickPending_of_deep hsleep hdeep]
  | evBtn level =>
    have hno : ¬ wakeEdge s.btn level s.wakeIe = true := by simp [wakeEdge_eq_true_iff, hie]
    exact ⟨level, by rw [exec_evBtn, effect_evBtn_of_no_edge hno]⟩
  | _ => cases he

theorem stepN_inputs_of_stuck (events : List Instr) {s : State} (h : Stuck s) (he : ∀ e ∈ events, isInput e = true) :
    ∃ level, stepN events.length { s with trace := events.map encode } =
      .next { s with btn := level, trace := [] } := by
  induction events generalizing s with
  | nil => exact ⟨s.btn, rfl⟩
  | cons e events ih =>
    obtain ⟨hhead, htail⟩ := List.forall_mem_cons.mp he
    obtain ⟨level, hexec⟩ := exec_input_of_stuck (stuck_with_btn h s.btn (events.map encode)) hhead
    obtain ⟨last, hrest⟩ := ih (stuck_with_btn h level s.trace) htail
    refine ⟨last, ?_⟩
    have hstep : step { s with trace := encode e :: events.map encode } =
        .next { s with btn := level, trace := events.map encode } := (step_cons rfl (decode_encode e)).trans hexec
    rw [List.length_cons, List.map_cons, stepN_succ_of_step _ hstep]
    exact hrest

/-- Settles O57: every input of the list leaves the block stuck, and a stuck block waits. -/
theorem stuckStateIgnoresEveryInput : Obligations.StuckStateIgnoresEveryInput := by
  intro s events h he
  obtain ⟨level, hrun⟩ := stepN_inputs_of_stuck events h he
  obtain ⟨hquiet, -⟩ := stuck_with_btn h level []
  exact ⟨level, hrun, (quiescentStateWaits _).2 hquiet rfl⟩

theorem arbiter_ne_quiescent {s : State} (h : ¬ Quiescent s) : arbiter s ≠ .quiescent :=
  mt (quiescentStateWaits s).1.mp h

/-- R202: outside deep sleep a tick ends the rest. -/
theorem awakenedBy_tick {s : State} (hidle : s.smode = .idle) : AwakenedBy [.evTick] s := by
  have hpending : tickPending { s with trace := [] } = true := tickPending_of_not_deep (by simp [hidle])
  have hstep : step { s with trace := [encode .evTick] } = .next { s with tickIf := true, trace := [] } := by
    rw [step_cons rfl (decode_encode .evTick), exec_evTick, hpending]
  refine ⟨_, stepN_succ_of_step 0 hstep, arbiter_ne_quiescent ?_⟩
  rintro ⟨-, -, -, -, htif⟩
  cases htif

/-- R204: a rising line is no edge. -/
theorem step_release {s : State} {rest : List Byte} (ht : s.trace = encode (.evBtn true) :: rest) :
    step s = .next { s with btn := true, trace := rest } := by
  have hno : ¬ wakeEdge s.btn true s.wakeIe = true := by simp [wakeEdge_eq_true_iff]
  rw [step_cons ht (decode_encode _), exec_evBtn]
  exact congrArg _ (effect_evBtn_of_no_edge hno)

/-- R204: with the wake line enabled a press ends the rest; the release before it makes the falling edge sure. -/
theorem awakenedBy_press {s : State} (hie : s.wakeIe = true) : AwakenedBy [.evBtn true, .evBtn false] s := by
  have hrelease := step_release (s := { s with trace := [encode (.evBtn true), encode (.evBtn false)] }) rfl
  have hpress := step_press (s := { s with btn := true, trace := [encode (.evBtn false)] }) rfl rfl hie
  refine ⟨_, (stepN_succ_of_step 1 hrelease).trans (stepN_succ_of_step 0 hpress), arbiter_ne_quiescent ?_⟩
  rintro ⟨-, -, -, hno, -⟩
  exact hno ⟨rfl, hie⟩

/-- Settles O58: no input wakes a stuck block, and each of the other quiescent states has an input that does. -/
theorem stuckExactlyInDeepSleepWithWakeDisabled : Obligations.StuckExactlyInDeepSleepWithWakeDisabled := by
  intro s hquiet
  refine ⟨fun hnever => ⟨?_, ?_⟩, fun ⟨hdeep, hie⟩ events he ⟨t, hrun, hwakes⟩ => ?_⟩
  · cases hmode : s.smode with
    | deep => rfl
    | idle => exact absurd (awakenedBy_tick hmode) (hnever _ (by decide))
  · cases hie : s.wakeIe with
    | false => rfl
    | true => exact absurd (awakenedBy_press hie) (hnever _ (by decide))
  · have hstuck : Stuck s := ⟨hquiet, hdeep, hie⟩
    obtain ⟨level, hstays⟩ := stepN_inputs_of_stuck events hstuck he
    obtain rfl : { s with btn := level, trace := [] } = t := by
      rw [hstays] at hrun
      injection hrun
    exact hwakes (arbiter_of_quiescent (stuck_with_btn hstuck level []).1)

/-! ### The scenario operations (R96) -/

theorem playEvent_eq (i : Instr) (s : State) : playEvent i s = exec i s := step_cons rfl (decode_encode i)

/-- RUN stops where the block is quiescent (log 17). -/
theorem runQuiet_of_stepN {k : Nat} {s t : State} (hk : k ≤ 41) (hrun : stepN k s = .next t) (hquiet : Quiescent t)
    (ht : t.trace = []) : runQuiet s = .next t := by
  obtain ⟨j, hj⟩ := Nat.exists_eq_add_of_le hk
  rw [runQuiet, runFuel, hj, stepN_add_of_next hrun, stepN_of_quiescent hquiet ht]

/-- An event and the run after it. -/
theorem play_of_exec {i : Instr} {k : Nat} {s t u : State} (hexec : exec i s = .next t) (hk : k ≤ 41)
    (hrun : stepN k t = .next u) (hquiet : Quiescent u) (ht : u.trace = []) :
    andThen (playEvent i s) runQuiet = .next u := by
  rw [playEvent_eq, hexec, andThen_next, runQuiet_of_stepN hk hrun hquiet ht]

theorem quiescent_asleepAfterReset (w b : Bool) : Quiescent (asleepAfterReset w b) := ⟨rfl, rfl, rfl, nofun, rfl⟩

theorem playReset_eq {s : State} (ht : s.trace = []) :
    playReset s = .next (asleepAfterReset s.resetParams.wakeIe s.resetParams.btn) := by
  have hexec : exec .evReset s = .next (State.resetWith s.resetParams.wakeIe s.resetParams.btn) := by
    rw [evResetWritesEveryRegister s, ht]
    rfl
  exact play_of_exec hexec (by decide) (stepN_resetToSleep _ _) (quiescent_asleepAfterReset _ _) rfl

/-- R264: after the first press with the wake line enabled. -/
def afterFirstPress : State :=
  { asleepAfterReset true true with btn := false, wakeIe := false, pled := true, preq := .powerUp, mreq := .powerUp }

/-- R264, R195, R178: the press is a wake edge; the WAKE handler runs, then MAIN's power-up path. -/
theorem playPress_of_enabled : playPress (asleepAfterReset true true) = .next afterFirstPress := by
  have hexec : exec (.evBtn false) (asleepAfterReset true true) =
      .next { asleepAfterReset true true with btn := false, wakeIf := true } := by
    rw [exec_evBtn, effect_evBtn_of_edge rfl]
  have hwake := undisturbedWakeRun { asleepAfterReset true true with btn := false, wakeIf := true } ⟨rfl, rfl, rfl⟩ rfl
  have hmain := (stepN_add_of_next (k := 4) hwake).trans
    (stepN_powerUpPath ⟨rfl, rfl, rfl, nofun, rfl, rfl⟩ rfl rfl)
  exact play_of_exec hexec (by decide) hmain ⟨rfl, rfl, rfl, nofun, rfl⟩ rfl

/-- R264: with the wake line disabled a press moves the line alone. -/
theorem playPress_of_disabled :
    playPress (asleepAfterReset false true) = .next { asleepAfterReset false true with btn := false } := by
  have hexec : exec (.evBtn false) (asleepAfterReset false true) =
      .next { asleepAfterReset false true with btn := false } := by
    rw [exec_evBtn, effect_evBtn_of_no_edge (by decide)]
  exact play_of_exec (k := 0) hexec (by decide) rfl ⟨rfl, rfl, rfl, nofun, rfl⟩ rfl

/-! ### Ticks while PREQ is PowerUp -/

@[simp] theorem animStep_smode (s : State) : (animStep s).smode = s.smode := by rw [animStep_frame]
@[simp] theorem animStep_mpc (s : State) : (animStep s).mpc = s.mpc := by rw [animStep_frame]

/-- MAIN is at M_CHK with no handler active or pending and the wake line disabled, in idle mode: asleep between two ticks,
or awake after one. PREQ is `req` and the button line at `level`. -/
structure CalmWith (level : Bool) (req : PowerRequest) (s : State) : Prop where
  trace : s.trace = []
  inwake : s.inwake = false
  intick : s.intick = false
  tickIf : s.tickIf = false
  wakeIe : s.wakeIe = false
  idle : s.smode = .idle
  mpc : s.mpc = 0#4
  fdiv : s.fdiv = 0#16
  btn : s.btn = level
  preq : s.preq = req
  pcount : s.pcount = 0#16

section
variable {level : Bool} {req : PowerRequest} {s : State}

theorem CalmWith.not_wakePending (h : CalmWith level req s) : ¬ WakePending s := by
  rintro ⟨-, hie⟩
  simp [h.wakeIe] at hie

theorem CalmWith.quiescent (h : CalmWith level req s) (hsleep : s.sleeping = true) : Quiescent s :=
  ⟨hsleep, h.intick, h.inwake, h.not_wakePending, h.tickIf⟩

theorem CalmWith.mainAt (h : CalmWith level req s) (hawake : s.sleeping = false) : MainAt 0#4 s :=
  ⟨h.inwake, h.intick, hawake, h.not_wakePending, h.tickIf, h.mpc⟩

/-- R178: MAIN's power-up path. -/
theorem CalmWith.stepN_powerUp (h : CalmWith level .powerUp s) (hawake : s.sleeping = false) :
    ∃ t, stepN 4 s = .next t ∧ CalmWith level .powerUp t ∧ t.sleeping = true ∧ t.pled = true :=
  ⟨_, stepN_powerUpPath (h.mainAt hawake) h.trace h.preq, { h with mpc := rfl }, rfl, rfl⟩

/-- R171: MAIN's idle path. -/
theorem CalmWith.stepN_none (h : CalmWith level .none s) (hawake : s.sleeping = false) :
    ∃ t, stepN 3 s = .next t ∧ CalmWith level .none t ∧ t.sleeping = true ∧ t.pled = s.pled :=
  ⟨_, stepN_idlePath (h.mainAt hawake) h.trace (by rw [h.preq]; rfl), { h with mpc := rfl }, rfl, rfl⟩

/-- R202: EV_TICK outside deep sleep. -/
theorem CalmWith.exec_evTick (h : CalmWith level req s) : exec .evTick s = .next { s with tickIf := true } := by
  rw [Proofs.exec_evTick, tickPending_of_not_deep (by simp [h.idle])]

/-- R157: T_PWR in PowerUp keeps the request while the button is held and ends it when it is not. -/
theorem powerStep_powerUp (hreq : s.preq = .powerUp) (level : Bool) :
    powerStep (!level) s = { s with pled := !level, preq := if level then .none else .powerUp } := by
  cases level with
  | false =>
    rw [Bool.not_false, powerStep_powerUp_pressed hreq]
    simp [← hreq]
  | true =>
    rw [Bool.not_true, powerStep_powerUp_released hreq]
    rfl

/-- R118, R157: the TICK handler's run. -/
theorem CalmWith.stepN_tick (h : CalmWith level .powerUp s) :
    ∃ t, stepN 10 { s with tickIf := true } = .next t ∧
      CalmWith level (if level then .none else .powerUp) t ∧ t.sleeping = false ∧ t.pled = !level := by
  have hreq : s.preq ≠ .powerDown := by simp [h.preq]
  have hpwr := powerStep_powerUp (s := animStep { s with tickIf := true }) (by simp [h.preq]) s.btn
  have hrun := undisturbedTickRun { s with tickIf := true } _ _ ⟨rfl, h.intick, h.inwake, h.not_wakePending⟩ h.trace
    h.fdiv rfl rfl
  simp only [if_neg hreq, hpwr] at hrun
  refine ⟨_, hrun, ?_, rfl, by simp [h.btn]⟩
  exact {
    trace := by simp [h.trace]
    inwake := by simp [h.inwake]
    intick := rfl
    tickIf := rfl
    wakeIe := by simp [h.wakeIe]
    idle := by simp [h.idle]
    mpc := by simp [h.mpc]
    fdiv := by simp [h.fdiv]
    btn := by simp [h.btn]
    preq := by simp [h.btn]
    pcount := by simp [h.pcount] }

theorem CalmWith.playTick_held (h : CalmWith false .powerUp s) :
    ∃ t, playTick s = .next t ∧ CalmWith false .powerUp t ∧ t.sleeping = true ∧ t.pled = true := by
  obtain ⟨u, htick, hu, hawake, -⟩ := h.stepN_tick
  obtain ⟨t, hmain, ht, hsleep, hled⟩ := hu.stepN_powerUp hawake
  have hrun := (stepN_add_of_next (k := 4) htick).trans hmain
  exact ⟨t, play_of_exec h.exec_evTick (by decide) hrun (ht.quiescent hsleep) ht.trace, ht, hsleep, hled⟩

theorem CalmWith.playTick_released (h : CalmWith true .powerUp s) :
    ∃ t, playTick s = .next t ∧ CalmWith true .none t ∧ t.pled = false := by
  obtain ⟨u, htick, hu, hawake, hoff⟩ := h.stepN_tick
  obtain ⟨t, hmain, ht, hsleep, hled⟩ := hu.stepN_none hawake
  have hrun := (stepN_add_of_next (k := 3) htick).trans hmain
  exact ⟨t, play_of_exec h.exec_evTick (by decide) hrun (ht.quiescent hsleep) ht.trace, ht, hled.trans hoff⟩

/-- R264: however long the button is held. -/
theorem CalmWith.playTicks_held (k : Nat) (h : CalmWith false .powerUp s) (hsleep : s.sleeping = true)
    (hled : s.pled = true) :
    ∃ t, playTicks k s = .next t ∧ CalmWith false .powerUp t ∧ t.sleeping = true ∧ t.pled = true := by
  induction k generalizing s with
  | zero => exact ⟨s, rfl, h, hsleep, hled⟩
  | succ k ih =>
    obtain ⟨t, htick, ht, hsleep', hled'⟩ := h.playTick_held
    obtain ⟨u, hrest, hu⟩ := ih ht hsleep' hled'
    exact ⟨u, by rw [playTicks, htick, andThen_next, hrest], hu⟩

/-- R204: a release is no edge, so a block that sleeps goes on sleeping. -/
theorem CalmWith.playRelease (h : CalmWith level req s) (hsleep : s.sleeping = true) :
    playRelease s = .next { s with btn := true } := by
  have hno : ¬ wakeEdge s.btn true s.wakeIe = true := by simp [wakeEdge_eq_true_iff]
  have hexec : exec (.evBtn true) s = .next { s with btn := true } := by
    rw [exec_evBtn, effect_evBtn_of_no_edge hno]
  have hcalm : CalmWith true req { s with btn := true } := { h with btn := rfl }
  exact play_of_exec (k := 0) hexec (by decide) rfl (hcalm.quiescent hsleep) h.trace

end

theorem calmWith_afterFirstPress : CalmWith false .powerUp afterFirstPress := by constructor <;> rfl

/-- Settles O60: the reset's run sleeps; with the wake line enabled the press wakes it into PowerUp, which the ticks keep
while the button is held and the first tick after the release ends. -/
theorem firstPressAfterResetIsAWakeEdge : Obligations.FirstPressAfterResetIsAWakeEdge := by
  intro s ht hbtn
  have hreset := playReset_eq ht
  rw [hbtn] at hreset
  refine ⟨fun hie => ?_, fun hie => ?_⟩
  · rw [hie] at hreset
    refine ⟨_, _, rfl, hreset, rfl, playPress_of_enabled, fun k => ?_⟩
    obtain ⟨h, hticks, hheld, hsleep, hled⟩ := calmWith_afterFirstPress.playTicks_held k rfl rfl
    have hreleased : CalmWith true .powerUp { h with btn := true } := { hheld with btn := rfl }
    obtain ⟨u, htick, hu, hoff⟩ := hreleased.playTick_released
    exact ⟨h, _, u, hticks, hheld.preq, hled, hheld.pcount, hheld.wakeIe, hheld.playRelease hsleep, rfl, htick, hu.preq,
      hoff, hu.pcount, hu.wakeIe⟩
  · rw [hie] at hreset
    exact ⟨_, rfl, hreset, playPress_of_disabled⟩

end Sys2Proof.Proofs
end
